-- ==== Sys2Proof/Word.lean ====
section
/-! DEFINITION. The fixed widths of the block (spec/00_scope.md R5, spec/10_state.md R16 to R19,
spec/30_encoding.md R50, R55). All quantities are unsigned (R9); bit 0 is the least significant. -/

namespace Sys2Proof

/-- `FRAME_BITS` (R5): data bits per frame. -/
def frameBits : Nat := 24

/-- `ADDR_BITS` (R5). -/
def addrBits : Nat := 20

/-- `KEY_BITS` (R5). -/
def keyBits : Nat := 4

/-- One event word `EW` (R50). -/
abbrev EventWord := BitVec 32

/-- The operand field `arg[23:0]` of an event word (R50). -/
abbrev Arg := BitVec 24

/-- The received bits, first received most significant (R17, R92). -/
abbrev Accumulator := BitVec 24

/-- `bitIndex`: an integer in [0,24], stored in 5 bits (R16). -/
abbrev BitIndex := BitVec 5

/-- The published 20-bit address (R19). -/
abbrev Address := BitVec 20

/-- The published 4-bit key (R19). -/
abbrev Key := BitVec 4

/-- `FRAME24 = address ++ key` (R55). -/
abbrev Frame24 := BitVec 24

/-- `FRAME25 = detected ++ address ++ key` (R55). -/
abbrev Frame25 := BitVec 25

end Sys2Proof
end

