-- ==== Sys2Proof/Config.lean ====
section
/-! DEFINITION. The configuration parameters (spec/00_scope.md R6, R7), the constraints on them (R8),
the built instance, and the free values of spec/93_implementation_defined.md U8. -/

namespace Sys2Proof

/-- The parameters of R6 and R7, raw. `tickPeriodNs` is informative: no rule depends on it (R7). -/
structure Params where
  tickW : Nat
  validMin : Nat
  validMax : Nat
  ratioMin : Nat
  ratioMax : Nat
  preHighRef : Nat
  preHighMin : Nat
  preHighMax : Nat
  tickPeriodNs : Nat
deriving DecidableEq, Repr

/-- The greatest tick count, `2^TICK_W - 1`. -/
def Params.tickMax (p : Params) : Nat := 2 ^ p.tickW - 1

/-- R8 (a). -/
abbrev Params.TickWidthOk (p : Params) : Prop := 1 ≤ p.tickW ∧ p.tickW ≤ 24

/-- R8 (b). -/
abbrev Params.PreambleBandOk (p : Params) : Prop :=
  1 ≤ p.preHighMin ∧ p.preHighMin ≤ p.preHighRef ∧ p.preHighRef ≤ p.preHighMax ∧
    p.preHighMax ≤ p.tickMax

/-- R8 (c). -/
abbrev Params.ValidBoundsOk (p : Params) : Prop :=
  p.validMin ≤ p.validMax ∧ p.validMax ≤ p.tickMax

/-- R8 (d). -/
abbrev Params.RatioOk (p : Params) : Prop :=
  1 ≤ p.ratioMin ∧ p.ratioMin ≤ p.ratioMax ∧ p.ratioMax ≤ 63

/-- R8: the constraints every configuration must meet. -/
abbrev Params.Valid (p : Params) : Prop :=
  p.TickWidthOk ∧ p.PreambleBandOk ∧ p.ValidBoundsOk ∧ p.RatioOk

/-- A configuration: parameters that meet R8. -/
structure Config extends Params where
  valid : toParams.Valid

/-- "a configuration that breaks one is not an instance of this hardware and a model refuses it"
(R8, U15). -/
def Config.ofParams? (p : Params) : Option Config :=
  if h : p.Valid then some ⟨p, h⟩ else none

/-- The defaults of R6 and R7. -/
def Params.default : Params where
  tickW := 16
  validMin := 450
  validMax := 8500
  ratioMin := 25
  ratioMax := 40
  preHighRef := 640
  preHighMin := 480
  preHighMax := 800
  tickPeriodNs := 500

/-- The built instance this machine is: the defaults (DESIGN CHOICE, notes/assumptions/1.md). -/
def Config.built : Config := ⟨Params.default, by decide⟩

/-- `TICK_W` of the built instance. -/
abbrev tickW : Nat := Config.built.tickW

/-- A tick count: `highTicks`, `lowTicks`, the Tick Source count (R7). -/
abbrev Tick := BitVec tickW

/-- The address a `RESET` leaves: UNSPECIFIED, any 20-bit value, drawn afresh at each `RESET`
(R28, R141, U8; notes/assumptions/3.md). -/
opaque Config.freeAddress : Nat → Address

/-- The key a `RESET` leaves: UNSPECIFIED, any 4-bit value, drawn afresh at each `RESET`
(R28, R141, U8; notes/assumptions/3.md). -/
opaque Config.freeKey : Nat → Key

end Sys2Proof
end

