-- ==== Sys2Proof/Syntax.lean ====
section
/-! DEFINITION. The atomic operations (spec/30_encoding.md R51, spec/00_scope.md R11), one constructor per
row of spec/opcode_table.json, and the reasons an event word is illegal (R57). -/

namespace Sys2Proof

/-- The polarity of an edge, `Rising|Falling` (spec/10_state.md R23, spec/30_encoding.md R54). -/
inductive Polarity where
  | falling
  | rising
deriving DecidableEq, Repr

/-- The atomic operations. The eight `NOTIFY` rows carry the operand field `arg[23:0]`, the tick
reading `t`; the seven sub-operation rows have the event word of `NOTIFY` and are selected by the
state and the sample (R56; notes/assumptions/8.md). -/
inductive Instr where
  /-- `NOTIFY t` (R65). -/
  | notify (t : Arg)
  /-- `EDGE.FIRST` (R66). -/
  | edgeFirst (t : Arg)
  /-- `EDGE.FALL` (R67). -/
  | edgeFall (t : Arg)
  /-- `RISE.MISS` (R82). -/
  | riseMiss (t : Arg)
  /-- `RISE.SYNC` (R83). -/
  | riseSync (t : Arg)
  /-- `RISE.DESYNC` (R84). -/
  | riseDesync (t : Arg)
  /-- `RISE.BIT` (R85). -/
  | riseBit (t : Arg)
  /-- `RISE.DONE` (R93). -/
  | riseDone (t : Arg)
  /-- `TICK n` (R115). -/
  | tick (n : Arg)
  /-- `LINE p` (R116). -/
  | line (p : Polarity)
  /-- `CLRDET` (R102). -/
  | clrdet
  /-- `REARM` (R100). -/
  | rearm
  /-- `DISABLE` (R101). -/
  | disable
  /-- `RDFRAME` (R103). -/
  | rdframe
  /-- `RDADDR` (R104). -/
  | rdaddr
  /-- `RDKEY` (R105). -/
  | rdkey
  /-- `RDDET` (R106). -/
  | rddet
  /-- `RESET` (R141). -/
  | reset
deriving DecidableEq, Repr

/-- The seven sub-operations of `NOTIFY` (R56, R11), in the order of R56's table. -/
inductive SubOp where
  | edgeFirst
  | edgeFall
  | riseMiss
  | riseSync
  | riseDesync
  | riseBit
  | riseDone
deriving DecidableEq, Repr

/-- The opcode-table row of a sub-operation, with the tick reading. -/
def SubOp.instr : SubOp → Arg → Instr
  | .edgeFirst => .edgeFirst
  | .edgeFall => .edgeFall
  | .riseMiss => .riseMiss
  | .riseSync => .riseSync
  | .riseDesync => .riseDesync
  | .riseBit => .riseBit
  | .riseDone => .riseDone

/-- Who performs an operation (R51, spec/10_state.md R27, spec/60_exceptions.md R128). -/
inductive Agent where
  | core
  | app
  | env
deriving DecidableEq, Repr

/-- Why an event word is illegal (R57). -/
inductive IllegalWord where
  /-- `op = 0x0`. -/
  | opZero
  /-- `op` in `0xB..0xE`. -/
  | opReserved
  /-- `zero != 0`. -/
  | zeroField
  /-- `arg != 0` for an operation without operand. -/
  | argNotZero
  /-- `arg[23:1] != 0` for `LINE`. -/
  | polarityArg
  /-- `arg >= 2^TICK_W` for `NOTIFY`. -/
  | readingTooLarge
deriving DecidableEq, Repr

end Sys2Proof
end

