-- ==== Sys2Proof/WellFormed.lean ====
section
/-! DEFINITION. Which operations an event word can carry (spec/30_encoding.md R52, R53, R57), and which
agent performs each (R51). -/

namespace Sys2Proof

/-- A tick reading is legal only if `t <= 2^TICK_W - 1` (R52). -/
abbrev Arg.LegalReading (t : Arg) : Prop := t.toNat < 2 ^ tickW

/-- The one check R57 leaves on a term of `Instr`: the reading of the `NOTIFY` rows. `TICK n` takes
every 24-bit value (R52), `LINE p` both polarities (R53), the rest no operand. -/
abbrev Instr.WellFormed : Instr → Prop
  | .notify t => t.LegalReading
  | .edgeFirst t => t.LegalReading
  | .edgeFall t => t.LegalReading
  | .riseMiss t => t.LegalReading
  | .riseSync t => t.LegalReading
  | .riseDesync t => t.LegalReading
  | .riseBit t => t.LegalReading
  | .riseDone t => t.LegalReading
  | .tick _ => True
  | .line _ => True
  | .clrdet => True
  | .rearm => True
  | .disable => True
  | .rdframe => True
  | .rdaddr => True
  | .rdkey => True
  | .rddet => True
  | .reset => True

/-- The agent column of R51; the sub-operations are the core's (R27). -/
def Instr.agent : Instr → Agent
  | .notify _ | .edgeFirst _ | .edgeFall _ | .riseMiss _ | .riseSync _ | .riseDesync _
  | .riseBit _ | .riseDone _ => .core
  | .clrdet | .rearm | .disable | .rdframe | .rdaddr | .rdkey | .rddet => .app
  | .tick _ | .line _ | .reset => .env

/-- The operation an instruction's event word names: the seven sub-operation rows have the word of
`NOTIFY` (R56), every other row its own. -/
def Instr.event : Instr → Instr
  | .notify t => .notify t
  | .edgeFirst t => .notify t
  | .edgeFall t => .notify t
  | .riseMiss t => .notify t
  | .riseSync t => .notify t
  | .riseDesync t => .notify t
  | .riseBit t => .notify t
  | .riseDone t => .notify t
  | .tick n => .tick n
  | .line p => .line p
  | .clrdet => .clrdet
  | .rearm => .rearm
  | .disable => .disable
  | .rdframe => .rdframe
  | .rdaddr => .rdaddr
  | .rdkey => .rdkey
  | .rddet => .rddet
  | .reset => .reset

end Sys2Proof
end

