-- ==== Sys2Proof/Decode.lean ====
section
/-! DEFINITION. The event word (spec/30_encoding.md R50 to R53, R57, R59): its fields, the decoder, total and
rejecting by name, the encoder, the opcode-table rows, and the binary codes of R54. -/

namespace Sys2Proof

/-- Bits 31:28 (R50). -/
def EventWord.op (w : EventWord) : BitVec 4 := w.extractLsb' 28 4

/-- Bits 27:24, must be 0 (R50). -/
def EventWord.zero (w : EventWord) : BitVec 4 := w.extractLsb' 24 4

/-- Bits 23:0 (R50). -/
def EventWord.arg (w : EventWord) : Arg := w.extractLsb' 0 24

/-- The code of a polarity: `Falling = 0`, `Rising = 1` (R54). -/
def Polarity.code : Polarity → BitVec 1
  | .falling => 0#1
  | .rising => 1#1

/-- An operation without operand: `arg` must be 0 (R57). -/
def decodeNoArg (a : Arg) (i : Instr) : Except IllegalWord Instr :=
  if a = 0#24 then .ok i else .error .argNotZero

/-- `NOTIFY t` (R52): legal only below `2^TICK_W`. -/
def decodeNotify (a : Arg) : Except IllegalWord Instr :=
  if a.LegalReading then .ok (.notify a) else .error .readingTooLarge

/-- `LINE p` (R53): the polarity is `arg[0]`, and `arg[23:1]` must be 0. -/
def decodeLine (a : Arg) : Except IllegalWord Instr :=
  if a.extractLsb' 1 23 = 0#23 then
    .ok (.line (if a.getLsbD 0 then .rising else .falling))
  else .error .polarityArg

/-- The operation of a legal `op` value, given its operand (R51, R57). -/
def decodeOp (op : Nat) (a : Arg) : Except IllegalWord Instr :=
  match op with
  | 0x0 => .error .opZero
  | 0x1 => decodeNotify a
  | 0x2 => .ok (.tick a)
  | 0x3 => decodeLine a
  | 0x4 => decodeNoArg a .clrdet
  | 0x5 => decodeNoArg a .rearm
  | 0x6 => decodeNoArg a .disable
  | 0x7 => decodeNoArg a .rdframe
  | 0x8 => decodeNoArg a .rdaddr
  | 0x9 => decodeNoArg a .rdkey
  | 0xA => decodeNoArg a .rddet
  | 0xF => decodeNoArg a .reset
  | _ => .error .opReserved

/-- The decoder: "reads `op` and checks rule R57; nothing else is needed" (R59). Where several reasons
hold the `zero` field is named first (notes/assumptions/15.md). -/
def decode (w : EventWord) : Except IllegalWord Instr :=
  if w.zero = 0#4 then decodeOp w.op.toNat w.arg else .error .zeroField

/-- An event word from its fields (R50). -/
def eventWord (op : BitVec 4) (a : Arg) : EventWord := op ++ 0#4 ++ a

/-- The operand field of `LINE p` (R53). -/
def Polarity.arg (p : Polarity) : Arg := p.code.setWidth 24

/-- The `op` value of an operation (R51); the sub-operation rows have that of `NOTIFY` (R56). -/
def Instr.opcode : Instr → BitVec 4
  | .notify _ => 0x1#4
  | .edgeFirst _ => 0x1#4
  | .edgeFall _ => 0x1#4
  | .riseMiss _ => 0x1#4
  | .riseSync _ => 0x1#4
  | .riseDesync _ => 0x1#4
  | .riseBit _ => 0x1#4
  | .riseDone _ => 0x1#4
  | .tick _ => 0x2#4
  | .line _ => 0x3#4
  | .clrdet => 0x4#4
  | .rearm => 0x5#4
  | .disable => 0x6#4
  | .rdframe => 0x7#4
  | .rdaddr => 0x8#4
  | .rdkey => 0x9#4
  | .rddet => 0xA#4
  | .reset => 0xF#4

/-- The operand field of an operation (R52, R53): zero for operations without operand. -/
def Instr.operand : Instr → Arg
  | .notify t => t
  | .edgeFirst t => t
  | .edgeFall t => t
  | .riseMiss t => t
  | .riseSync t => t
  | .riseDesync t => t
  | .riseBit t => t
  | .riseDone t => t
  | .tick n => n
  | .line p => p.arg
  | .clrdet => 0#24
  | .rearm => 0#24
  | .disable => 0#24
  | .rdframe => 0#24
  | .rdaddr => 0#24
  | .rdkey => 0#24
  | .rddet => 0#24
  | .reset => 0#24

/-- The encoder: the event word of a well-formed operation (R50 to R53). -/
def encode (i : Instr) : EventWord := eventWord i.opcode i.operand

/-- A row of spec/opcode_table.json: a word belongs to it when `word &&& mask = pattern`. -/
structure OpcodeRow where
  mask : EventWord
  pattern : EventWord
deriving DecidableEq, Repr

/-- The row of an operation, as the table gives it. -/
def Instr.row : Instr → OpcodeRow
  | .notify _ => ⟨0xFF000000#32, 0x10000000#32⟩
  | .edgeFirst _ => ⟨0xFF000000#32, 0x10000000#32⟩
  | .edgeFall _ => ⟨0xFF000000#32, 0x10000000#32⟩
  | .riseMiss _ => ⟨0xFF000000#32, 0x10000000#32⟩
  | .riseSync _ => ⟨0xFF000000#32, 0x10000000#32⟩
  | .riseDesync _ => ⟨0xFF000000#32, 0x10000000#32⟩
  | .riseBit _ => ⟨0xFF000000#32, 0x10000000#32⟩
  | .riseDone _ => ⟨0xFF000000#32, 0x10000000#32⟩
  | .tick _ => ⟨0xFF000000#32, 0x20000000#32⟩
  | .line _ => ⟨0xFFFFFFFE#32, 0x30000000#32⟩
  | .clrdet => ⟨0xFFFFFFFF#32, 0x40000000#32⟩
  | .rearm => ⟨0xFFFFFFFF#32, 0x50000000#32⟩
  | .disable => ⟨0xFFFFFFFF#32, 0x60000000#32⟩
  | .rdframe => ⟨0xFFFFFFFF#32, 0x70000000#32⟩
  | .rdaddr => ⟨0xFFFFFFFF#32, 0x80000000#32⟩
  | .rdkey => ⟨0xFFFFFFFF#32, 0x90000000#32⟩
  | .rddet => ⟨0xFFFFFFFF#32, 0xA0000000#32⟩
  | .reset => ⟨0xFFFFFFFF#32, 0xF0000000#32⟩

/-- The event word whose low `nbits` bits are those of `w`, the bits above them 0. -/
def tableWord (nbits w : Nat) : EventWord := BitVec.ofNat 32 (w % 2 ^ nbits)

/-- The operation the decoder reads from a table word. There is one word length, 32 bits (R59): what
does not fit it is no event word (notes/assumptions/14.md). -/
def decodeTableWord (nbits w : Nat) : Option Instr :=
  if w % 2 ^ nbits < 2 ^ 32 then (decode (tableWord nbits w)).toOption else none

end Sys2Proof
end

