-- ==== Sys2Proof/Machine/State.lean ====
section
/-! DEFINITION. The architectural state (spec/10_state.md R13 to R24), its reset value (R28), and the reasons a
step can stop. -/

namespace Sys2Proof.Machine

/-- Which edge comes next (R14): three values, no fourth (R54). -/
inductive Phase where
  | awaitingFirstEdge
  | awaitingFallingEdge
  | awaitingRisingEdge
deriving DecidableEq, Repr

/-- What a read operation returns, with its width (R62, R103 to R106). -/
inductive ReadResult where
  | frame (v : Frame25)
  | address (v : Address)
  | key (v : Key)
  | detected (v : BitVec 1)
deriving DecidableEq, Repr

/-- Everything the spec gives the machine, and three fields of the model's own (`trace`, `lastRead`,
`freeDraws`). -/
structure State where
  /-- R14. -/
  phase : Phase
  /-- R15. -/
  preambleFound : Bool
  /-- R16. -/
  bitIndex : BitIndex
  /-- R17. -/
  accumulator : Accumulator
  /-- R18. -/
  hiLatch : Tick
  /-- R19. -/
  address : Address
  /-- R19. -/
  key : Key
  /-- R20. -/
  detected : Bool
  /-- R22. -/
  enabled : Bool
  /-- R23. -/
  armedPolarity : Polarity
  /-- R24. -/
  count : Tick
  /-- The MODEL's field: the event words still to be performed (R50; notes/assumptions/4.md). -/
  trace : List EventWord
  /-- The MODEL's field: what the last read returned (R62; notes/assumptions/6.md). -/
  lastRead : Option ReadResult
  /-- The MODEL's field: how many times `RESET` has drawn its free values (R141;
  notes/assumptions/3.md). -/
  freeDraws : Nat
deriving DecidableEq, Repr

/-- The block raises no exception and has no trap (R121); nothing in it "is treated as `fault`"
(spec/93_implementation_defined.md). Raised by nothing: the type is empty (notes/assumptions/10.md). -/
inductive Fault where
deriving DecidableEq, Repr

/-- Why a word of the trace is refused (R58): no step, no change of state. Each is safe: the hardware
has no such event. -/
inductive Refusal where
  /-- An arm of `exec` without a meaning; raised by no arm of this model. Safe. -/
  | notModelled (mnemonic : String)
  /-- Raised by `step` on an illegal event word, with the reason of R57. Safe: the spec refuses it. -/
  | illegalWord (why : IllegalWord)
  /-- Raised by the eight `NOTIFY` rows while `enabled = 0` (R58, R65). Safe: the Edge Notifier
  delivers no notification then (R113). -/
  | notifyWhileDisabled
  /-- Raised by the eight `NOTIFY` rows on a reading of `2^TICK_W` or more, which no legal word
  carries (R57; notes/assumptions/9.md). Safe: `step` never gets there. -/
  | illegalReading
  /-- Raised by a sub-operation row asked for by name where R56 does not select it
  (notes/assumptions/8.md). Safe: no word of the trace asks for a sub-operation by name. -/
  | notSelected
deriving DecidableEq, Repr

/-- The machine after `RESET` (R28). `address` and `key` are UNSPECIFIED there; 0 is the model's named
value (DESIGN CHOICE, unsafe: notes/assumptions/2.md). -/
def State.reset : State where
  phase := .awaitingFirstEdge
  preambleFound := false
  bitIndex := 0#5
  accumulator := 0#24
  hiLatch := 0#tickW
  address := 0#20
  key := 0#4
  detected := false
  enabled := false
  armedPolarity := .rising
  count := 0#tickW
  trace := []
  lastRead := none
  freeDraws := 0

end Sys2Proof.Machine
end

