-- ==== Sys2Proof/Machine/Ops.lean ====
section
/-! DEFINITION. The named operations over the registers that the meanings share: the interface calls of
spec/44_external_collaborators.md R111 to R113 as the state writes they stand for (spec/00_scope.md R10), the writes
of the decoder registers, the guard of the `NOTIFY` rows, and the model's input and output. There is no
memory (spec/20_memory.md R36) and no exception to take or to return from (spec/60_exceptions.md R121, R125, R126). -/

namespace Sys2Proof.Machine

/-- The outcome of one operation. -/
abbrev Result := Host.Outcome State Fault Refusal

/-- `readTicks()` (R111): the value of `count`; it changes nothing. -/
def State.readTicks (s : State) : Tick := s.count

/-- `resetTicks()` (R111). -/
def State.resetTicks (s : State) : State := { s with count := 0#tickW }

/-- The Tick Source holds `c`: the `count <- t` of a core-level `NOTIFY t` (R65) and of `TICK` (R115). -/
def State.setCount (c : Tick) (s : State) : State := { s with count := c }

/-- `armForEdge(p)` (R112). -/
def State.armForEdge (p : Polarity) (s : State) : State := { s with armedPolarity := p }

/-- `phase <- p` (R14). -/
def State.setPhase (p : Phase) (s : State) : State := { s with phase := p }

/-- `hiLatch <- h` (R18). -/
def State.setHiLatch (h : Tick) (s : State) : State := { s with hiLatch := h }

/-- `bitIndex <- i`, `accumulator <- a` (R16, R17). -/
def State.setBits (i : BitIndex) (a : Accumulator) (s : State) : State :=
  { s with bitIndex := i, accumulator := a }

/-- `address <- a`, `key <- k` (R19). -/
def State.setFields (a : Address) (k : Key) (s : State) : State := { s with address := a, key := k }

/-- The value a read operation returns (R62): it leaves the block, and no register of it changes
(R40). -/
def State.returnRead (r : ReadResult) (s : State) : State := { s with lastRead := some r }

/-- The UNSPECIFIED values of one `RESET` are drawn: the next will draw afresh (R141). -/
def State.drawFree (s : State) : State := { s with freeDraws := s.freeDraws + 1 }

/-- The next event of the trace and the machine with the rest of it, or nothing to perform (R50). -/
def State.nextEvent (s : State) : Option (EventWord × State) :=
  match s.trace with
  | [] => none
  | w :: ws => some (w, { s with trace := ws })

/-- Put one event word at the head of the trace. -/
def State.pushEvent (w : EventWord) (s : State) : State := { s with trace := w :: s.trace }

/-- A `NOTIFY` row happens only with a legal reading (R57) and while `enabled = 1` (R65, R58); the
value used is `arg[TICK_W-1:0]` (R52). -/
def notified (t : Arg) (s : State) (effect : Tick → Result) : Result :=
  if t.LegalReading then
    if s.enabled then effect (t.setWidth tickW) else .refused .notifyWhileDisabled
  else .refused .illegalReading

end Sys2Proof.Machine
end

