-- ==== Sys2Proof/Machine/Flags.lean ====
section
/-! DEFINITION. The three one-bit flags and every write of them (spec/10_state.md R29, R15, R20, R22). There are
no arithmetic condition codes (R29). -/

namespace Sys2Proof.Machine

/-- `preambleFound <- b` (R15): 1 by `RISE.SYNC` only. -/
def State.setPreambleFound (b : Bool) (s : State) : State := { s with preambleFound := b }

/-- `detected <- b` (R20): 1 by `RISE.DONE` only, 0 by `CLRDET` and `RESET` only. -/
def State.setDetected (b : Bool) (s : State) : State := { s with detected := b }

/-- `enable()`, that is `enabled <- 1` (R113). -/
def State.enable (s : State) : State := { s with enabled := true }

/-- `disable()`, that is `enabled <- 0` (R113). -/
def State.disable (s : State) : State := { s with enabled := false }

/-- The clearing that ends every frame attempt (R152): `preambleFound`, `bitIndex`, `accumulator` and
`hiLatch` to 0, shared by `RISE.DESYNC`, `RISE.DONE`, `REARM`, `DISABLE` and `RESET` (R84, R93, R100,
R101, R141). -/
def State.clearDecoder (s : State) : State :=
  ((s.setPreambleFound false).setBits 0#5 0#24).setHiLatch 0#tickW

end Sys2Proof.Machine
end

