-- ==== Sys2Proof/Machine/Operands.lean ====
section
/-! DEFINITION. The forms values take: the codes of the enumerations (spec/30_encoding.md R54), the packed forms
of the frame (R55), the fields of a completed frame (spec/42_frame_assembler.md R94), and the pulse sample
(spec/00_scope.md R12). -/

namespace Sys2Proof.Machine

/-- The 2-bit code of a phase (R54). -/
def Phase.code : Phase → BitVec 2
  | .awaitingFirstEdge => 0b00#2
  | .awaitingFallingEdge => 0b01#2
  | .awaitingRisingEdge => 0b10#2

/-- The 1-bit code of a boolean: 1 for true (R54). -/
def flagCode (b : Bool) : BitVec 1 := BitVec.ofBool b

/-- `address = final[23:4]` (R94). -/
def frameAddress (final : Accumulator) : Address := final.extractLsb' 4 20

/-- `key = final[3:0]` (R94). -/
def frameKey (final : Accumulator) : Key := final.extractLsb' 0 4

/-- `FRAME24 = address ++ key` (R55). -/
def frame24 (a : Address) (k : Key) : Frame24 := a ++ k

/-- `FRAME25 = detected ++ address ++ key` (R55). -/
def frame25 (d : Bool) (a : Address) (k : Key) : Frame25 := flagCode d ++ a ++ k

/-- `PulseSample{highTicks, lowTicks}` (R12): it exists only inside one `RISE` (R25). -/
structure PulseSample where
  highTicks : Tick
  lowTicks : Tick
deriving DecidableEq, Repr

/-- The sample a rising edge with reading `t` completes (R68). -/
def State.sample (s : State) (t : Tick) : PulseSample := ⟨s.hiLatch, t⟩

end Sys2Proof.Machine
end

