-- ==== Sys2Proof/Machine/Application.lean ====
section
/-! DEFINITION. The application's port (spec/43_completion_and_application_ops.md R100 to R106) and `RESET`
(spec/70_reset_and_hazards.md R141). -/

namespace Sys2Proof.Machine

/-- `CLRDET` (R102): `detected <- 0`, everything else unchanged. -/
def execClrdet (s : State) : Result := .next (s.setDetected false)

/-- `REARM` (R100): legal in every state. -/
def execRearm (s : State) : Result :=
  .next ((s.clearDecoder.setPhase .awaitingFirstEdge).armForEdge .rising).enable

/-- `DISABLE` (R101): legal in every state; the partial frame is discarded. -/
def execDisable (s : State) : Result :=
  .next (s.clearDecoder.setPhase .awaitingFirstEdge).disable

/-- `RDFRAME` (R103): the 25-bit snapshot. -/
def execRdframe (s : State) : Result :=
  .next (s.returnRead (.frame (frame25 s.detected s.address s.key)))

/-- `RDADDR` (R104). -/
def execRdaddr (s : State) : Result := .next (s.returnRead (.address s.address))

/-- `RDKEY` (R105). -/
def execRdkey (s : State) : Result := .next (s.returnRead (.key s.key))

/-- `RDDET` (R106): the flag is not cleared by being read. -/
def execRddet (s : State) : Result := .next (s.returnRead (.detected (flagCode s.detected)))

/-- `RESET` (R141): every register at its reset value, `address` and `key` at values drawn afresh. -/
def execReset (s : State) : Result :=
  .next
    ((((((s.clearDecoder.setPhase .awaitingFirstEdge).setDetected false).setFields
      (Config.freeAddress s.freeDraws) (Config.freeKey s.freeDraws)).drawFree.disable).armForEdge
        .rising).resetTicks)

end Sys2Proof.Machine
end

