-- ==== Sys2Proof/Machine/Classifier.lean ====
section
/-! DEFINITION. The Pulse Classifier (spec/41_pulse_classifier.md): the three predicates and the verdict for every
configuration, and the four `RISE.*` sub-operations that do not complete a frame. The arithmetic is
exact, on unbounded naturals (R81). -/

namespace Sys2Proof.Machine

/-- `validRange(low, high)` (R76): both ends included. -/
def validRange (c : Config) (low high : Nat) : Bool :=
  decide (c.validMin ≤ low) && decide (low ≤ c.validMax) &&
    (decide (c.validMin ≤ high) && decide (high ≤ c.validMax))

/-- `decodeBit(low, high)` (R77): `high >= 1.5 * low`, exactly; the tie goes to 1. -/
def decodeBit (low high : Nat) : Bool := decide (3 * low ≤ 2 * high)

/-- `isPreamble(low, high)` (R78): the quotient by cross-multiplication, all ends included. -/
def isPreamble (c : Config) (low high : Nat) : Bool :=
  decide (c.preHighMin ≤ high) && decide (high ≤ c.preHighMax) &&
    (decide (c.ratioMin * high ≤ low) && decide (low ≤ c.ratioMax * high))

/-- The verdicts of R79. -/
inductive Verdict where
  | miss
  | preamble
  | invalid
  | bit (b : Bool)
deriving DecidableEq, Repr

/-- `classify(low, high, pf)` (R79). -/
def classify (c : Config) (low high : Nat) (pf : Bool) : Verdict :=
  if pf then
    if validRange c low high then .bit (decodeBit low high) else .invalid
  else
    if isPreamble c low high then .preamble else .miss

/-- The verdict of the built instance on a sample. -/
def PulseSample.verdict (p : PulseSample) (pf : Bool) : Verdict :=
  classify Config.built p.lowTicks.toNat p.highTicks.toNat pf

/-- `validRange` of the built instance on a sample (R76). -/
def PulseSample.valid (p : PulseSample) : Bool :=
  validRange Config.built p.lowTicks.toNat p.highTicks.toNat

/-- `isPreamble` of the built instance on a sample (R78). -/
def PulseSample.preamble (p : PulseSample) : Bool :=
  isPreamble Config.built p.lowTicks.toNat p.highTicks.toNat

/-- The data bit of a sample (R77). -/
def PulseSample.bit (p : PulseSample) : Bool := decodeBit p.lowTicks.toNat p.highTicks.toNat

/-- `insertBit(acc, i, b)` (spec/42_frame_assembler.md R91): bitwise OR at numeric bit `23 - i`. -/
def insertBit (acc : Accumulator) (i : Nat) (b : Bool) : Accumulator :=
  acc ||| ((flagCode b).setWidth 24 <<< (23 - i))

/-- The normal epilogue of `RISE.MISS`, `RISE.SYNC` and `RISE.BIT` (spec/40_edge_phase_tracker.md R68). -/
def State.normalEpilogue (s : State) : State :=
  (s.resetTicks.setPhase .awaitingFallingEdge).armForEdge .falling

/-- `RISE.MISS` (R82): the classification state is unchanged. -/
def riseMissState (s : State) : State := s.normalEpilogue

/-- `RISE.SYNC` (R83). -/
def riseSyncState (s : State) : State :=
  ((s.setPreambleFound true).setBits 0#5 0#24).normalEpilogue

/-- `RISE.DESYNC`, the soft reset (R84). -/
def riseDesyncState (s : State) : State :=
  (s.clearDecoder.resetTicks.setPhase .awaitingRisingEdge).armForEdge .rising

/-- `RISE.BIT b` (R85). -/
def riseBitState (b : Bool) (s : State) : State :=
  (s.setBits (s.bitIndex + 1#5) (insertBit s.accumulator s.bitIndex.toNat b)).normalEpilogue

end Sys2Proof.Machine
end

