-- ==== Sys2Proof/Machine/Assembler.lean ====
section
/-! DEFINITION. The Frame Assembler (spec/42_frame_assembler.md): publishing a completed frame, and `RISE.DONE`. -/

namespace Sys2Proof.Machine

/-- The publish (R93 part 1, R96): `address`, `key` and `detected` together. -/
def State.publish (final : Accumulator) (s : State) : State :=
  (s.setFields (frameAddress final) (frameKey final)).setDetected true

/-- `RISE.DONE b` (R93): publish, hard reset, disarm; `count` and `armedPolarity` are left. -/
def riseDoneState (b : Bool) (s : State) : State :=
  ((s.publish (insertBit s.accumulator 23 b)).clearDecoder.setPhase .awaitingFirstEdge).disable

end Sys2Proof.Machine
end

