-- ==== Sys2Proof/Machine/Tracker.lean ====
section
/-! DEFINITION. The Edge Phase Tracker (spec/40_edge_phase_tracker.md): `EDGE.FIRST`, `EDGE.FALL`, `RISE`, the whole of
`NOTIFY`, the selection of its sub-operation (spec/30_encoding.md R56), and the meanings of the eight rows. -/

namespace Sys2Proof.Machine

/-- `EDGE.FIRST` (R66). -/
def edgeFirstState (s : State) : State :=
  ((s.setHiLatch 0#tickW).resetTicks.setPhase .awaitingFallingEdge).armForEdge .falling

/-- `EDGE.FALL with t` (R67). -/
def edgeFallState (t : Tick) (s : State) : State :=
  ((s.setHiLatch t).resetTicks.setPhase .awaitingRisingEdge).armForEdge .rising

/-- `RISE with t` (R68): the sample is classified, and the verdict selects. -/
def riseState (t : Tick) (s : State) : State :=
  match (s.sample t).verdict s.preambleFound with
  | .miss => riseMissState s
  | .preamble => riseSyncState s
  | .invalid => riseDesyncState s
  | .bit b => if s.bitIndex.toNat ≤ 22 then riseBitState b s else riseDoneState b s

/-- The sub-operation R65 and R68 select from `phase`, with reading `t`. -/
def phaseState (t : Tick) (s : State) : State :=
  match s.phase with
  | .awaitingFirstEdge => edgeFirstState s
  | .awaitingFallingEdge => edgeFallState t s
  | .awaitingRisingEdge => riseState t s

/-- `NOTIFY t` past its precondition (R65): `count <- t`, then the sub-operation `phase` selects. It
reads neither `armedPolarity` nor DecodedFrame (R69, R27). -/
def notifyState (t : Tick) (s : State) : State := phaseState t (s.setCount t)

/-- The condition of a row of R56's table. -/
def SubOp.selected (o : SubOp) (t : Tick) (s : State) : Bool :=
  match o with
  | .edgeFirst => s.phase == .awaitingFirstEdge
  | .edgeFall => s.phase == .awaitingFallingEdge
  | .riseMiss =>
    s.phase == .awaitingRisingEdge && !s.preambleFound && !(s.sample t).preamble
  | .riseSync =>
    s.phase == .awaitingRisingEdge && !s.preambleFound && (s.sample t).preamble
  | .riseDesync =>
    s.phase == .awaitingRisingEdge && s.preambleFound && !(s.sample t).valid
  | .riseBit =>
    s.phase == .awaitingRisingEdge && s.preambleFound && (s.sample t).valid &&
      decide (s.bitIndex.toNat ≤ 22)
  | .riseDone =>
    s.phase == .awaitingRisingEdge && s.preambleFound && (s.sample t).valid &&
      decide (s.bitIndex.toNat = 23)

/-- A sub-operation row: `NOTIFY t` where R56 selects that row, and no step otherwise (R10, R56;
notes/assumptions/8.md). The reading is in `count` when the sub-operation runs (R65). -/
def selectedNotify (o : SubOp) (t : Arg) (s : State) (effect : Tick → State → State) : Result :=
  notified t s fun r =>
    if SubOp.selected o r s then .next (effect r (s.setCount r)) else .refused .notSelected

/-- `NOTIFY t` (R65). -/
def execNotify (t : Arg) (s : State) : Result := notified t s fun r => .next (notifyState r s)

/-- `EDGE.FIRST` (R66); the reading is discarded. -/
def execEdgeFirst (t : Arg) (s : State) : Result :=
  selectedNotify .edgeFirst t s fun _ u => edgeFirstState u

/-- `EDGE.FALL` (R67). -/
def execEdgeFall (t : Arg) (s : State) : Result :=
  selectedNotify .edgeFall t s fun r u => edgeFallState r u

/-- `RISE.MISS` (R82). -/
def execRiseMiss (t : Arg) (s : State) : Result :=
  selectedNotify .riseMiss t s fun _ u => riseMissState u

/-- `RISE.SYNC` (R83). -/
def execRiseSync (t : Arg) (s : State) : Result :=
  selectedNotify .riseSync t s fun _ u => riseSyncState u

/-- `RISE.DESYNC` (R84). -/
def execRiseDesync (t : Arg) (s : State) : Result :=
  selectedNotify .riseDesync t s fun _ u => riseDesyncState u

/-- `RISE.BIT b`, `b := decodeBit(low, high)` (R85). -/
def execRiseBit (t : Arg) (s : State) : Result :=
  selectedNotify .riseBit t s fun r u => riseBitState (u.sample r).bit u

/-- `RISE.DONE b`, `b := decodeBit(low, high)` (R93). -/
def execRiseDone (t : Arg) (s : State) : Result :=
  selectedNotify .riseDone t s fun r u => riseDoneState (u.sample r).bit u

end Sys2Proof.Machine
end

