-- ==== Sys2Proof/Machine/Collaborators.lean ====
section
/-! DEFINITION. The reference behaviour of the Tick Source and the Edge Notifier
(spec/44_external_collaborators.md R115, R116). -/

namespace Sys2Proof.Machine

/-- `n` ticks later: `min(count + n, 2^TICK_W - 1)`, never a wrap (R115). -/
def saturatingTicks (count : Tick) (n : Nat) : Tick :=
  BitVec.ofNat tickW (min (count.toNat + n) Config.built.tickMax)

/-- `TICK n` (R115): the Tick Source counts exactly while `enabled = 1`. -/
def execTick (n : Arg) (s : State) : Result :=
  .next (if s.enabled then s.setCount (saturatingTicks s.count n.toNat) else s)

/-- `LINE p` (R116): `NOTIFY count` in the same step when enabled and armed for `p`; otherwise the
edge is lost, not remembered. -/
def execLine (p : Polarity) (s : State) : Result :=
  .next (if s.enabled && p == s.armedPolarity then notifyState s.readTicks s else s)

end Sys2Proof.Machine
end

