-- ==== Sys2Proof/Machine/Dispatch.lean ====
section
/-! DEFINITION. One arm per operation (spec/30_encoding.md R51, R56): each calls its meaning. -/

namespace Sys2Proof.Machine

/-- The effect of one operation. -/
def exec (i : Instr) (s : State) : Host.Outcome State Fault Refusal :=
  match i with
  -- the core: NOTIFY and its seven sub-operations
  | .notify t => Sys2Proof.Machine.execNotify t s
  | .edgeFirst t => Sys2Proof.Machine.execEdgeFirst t s
  | .edgeFall t => Sys2Proof.Machine.execEdgeFall t s
  | .riseMiss t => Sys2Proof.Machine.execRiseMiss t s
  | .riseSync t => Sys2Proof.Machine.execRiseSync t s
  | .riseDesync t => Sys2Proof.Machine.execRiseDesync t s
  | .riseBit t => Sys2Proof.Machine.execRiseBit t s
  | .riseDone t => Sys2Proof.Machine.execRiseDone t s
  -- the environment: the two collaborators
  | .tick n => Sys2Proof.Machine.execTick n s
  | .line p => Sys2Proof.Machine.execLine p s
  -- the application's port
  | .clrdet => Sys2Proof.Machine.execClrdet s
  | .rearm => Sys2Proof.Machine.execRearm s
  | .disable => Sys2Proof.Machine.execDisable s
  | .rdframe => Sys2Proof.Machine.execRdframe s
  | .rdaddr => Sys2Proof.Machine.execRdaddr s
  | .rdkey => Sys2Proof.Machine.execRdkey s
  | .rddet => Sys2Proof.Machine.execRddet s
  -- the environment: reset
  | .reset => Sys2Proof.Machine.execReset s

end Sys2Proof.Machine
end

