-- ==== Sys2Proof/Machine/Step.lean ====
section
/-! DEFINITION. One step: the next event word of the trace is decoded and performed (spec/30_encoding.md R50, R58,
R59). -/

namespace Sys2Proof.Machine

/-- One step. With no event the block waits (spec/60_exceptions.md R126, spec/70_reset_and_hazards.md R142;
notes/assumptions/5.md); an illegal word is refused (R58); a legal one is performed, as one atomic
step (R50). -/
def step (s : State) : Host.Outcome State Fault Refusal :=
  match s.nextEvent with
  | none => .next s
  | some (w, rest) =>
    match decode w with
    | .error why => .refused (.illegalWord why)
    | .ok i => exec i rest

/-- The machine whose next event is the given word (notes/assumptions/4.md). -/
def State.withFetchWord (s : State) (nbits w : Nat) : State := s.pushEvent (tableWord nbits w)

end Sys2Proof.Machine
end

