-- ==== Sys2Proof/Laws/State.lean ====
section
/-! SUPPORT. What each update of the state does to each field: one lemma per field per update, true by
unfolding the update once. -/

namespace Sys2Proof.Machine

variable (s : State)

/-! `State.resetTicks` -/

@[simp] theorem State.resetTicks_phase : s.resetTicks.phase = s.phase := rfl
@[simp] theorem State.resetTicks_preambleFound : s.resetTicks.preambleFound = s.preambleFound := rfl
@[simp] theorem State.resetTicks_bitIndex : s.resetTicks.bitIndex = s.bitIndex := rfl
@[simp] theorem State.resetTicks_accumulator : s.resetTicks.accumulator = s.accumulator := rfl
@[simp] theorem State.resetTicks_hiLatch : s.resetTicks.hiLatch = s.hiLatch := rfl
@[simp] theorem State.resetTicks_address : s.resetTicks.address = s.address := rfl
@[simp] theorem State.resetTicks_key : s.resetTicks.key = s.key := rfl
@[simp] theorem State.resetTicks_detected : s.resetTicks.detected = s.detected := rfl
@[simp] theorem State.resetTicks_enabled : s.resetTicks.enabled = s.enabled := rfl
@[simp] theorem State.resetTicks_armedPolarity : s.resetTicks.armedPolarity = s.armedPolarity := rfl
@[simp] theorem State.resetTicks_count : s.resetTicks.count = 0#tickW := rfl
@[simp] theorem State.resetTicks_trace : s.resetTicks.trace = s.trace := rfl
@[simp] theorem State.resetTicks_lastRead : s.resetTicks.lastRead = s.lastRead := rfl
@[simp] theorem State.resetTicks_freeDraws : s.resetTicks.freeDraws = s.freeDraws := rfl

/-! `State.setCount` -/

@[simp] theorem State.setCount_phase (c : Tick) : (s.setCount c).phase = s.phase := rfl
@[simp] theorem State.setCount_preambleFound (c : Tick) :
    (s.setCount c).preambleFound = s.preambleFound := rfl
@[simp] theorem State.setCount_bitIndex (c : Tick) : (s.setCount c).bitIndex = s.bitIndex := rfl
@[simp] theorem State.setCount_accumulator (c : Tick) :
    (s.setCount c).accumulator = s.accumulator := rfl
@[simp] theorem State.setCount_hiLatch (c : Tick) : (s.setCount c).hiLatch = s.hiLatch := rfl
@[simp] theorem State.setCount_address (c : Tick) : (s.setCount c).address = s.address := rfl
@[simp] theorem State.setCount_key (c : Tick) : (s.setCount c).key = s.key := rfl
@[simp] theorem State.setCount_detected (c : Tick) : (s.setCount c).detected = s.detected := rfl
@[simp] theorem State.setCount_enabled (c : Tick) : (s.setCount c).enabled = s.enabled := rfl
@[simp] theorem State.setCount_armedPolarity (c : Tick) :
    (s.setCount c).armedPolarity = s.armedPolarity := rfl
@[simp] theorem State.setCount_count (c : Tick) : (s.setCount c).count = c := rfl
@[simp] theorem State.setCount_trace (c : Tick) : (s.setCount c).trace = s.trace := rfl
@[simp] theorem State.setCount_lastRead (c : Tick) : (s.setCount c).lastRead = s.lastRead := rfl
@[simp] theorem State.setCount_freeDraws (c : Tick) : (s.setCount c).freeDraws = s.freeDraws := rfl

/-! `State.armForEdge` -/

@[simp] theorem State.armForEdge_phase (p : Polarity) : (s.armForEdge p).phase = s.phase := rfl
@[simp] theorem State.armForEdge_preambleFound (p : Polarity) :
    (s.armForEdge p).preambleFound = s.preambleFound := rfl
@[simp] theorem State.armForEdge_bitIndex (p : Polarity) :
    (s.armForEdge p).bitIndex = s.bitIndex := rfl
@[simp] theorem State.armForEdge_accumulator (p : Polarity) :
    (s.armForEdge p).accumulator = s.accumulator := rfl
@[simp] theorem State.armForEdge_hiLatch (p : Polarity) :
    (s.armForEdge p).hiLatch = s.hiLatch := rfl
@[simp] theorem State.armForEdge_address (p : Polarity) :
    (s.armForEdge p).address = s.address := rfl
@[simp] theorem State.armForEdge_key (p : Polarity) : (s.armForEdge p).key = s.key := rfl
@[simp] theorem State.armForEdge_detected (p : Polarity) :
    (s.armForEdge p).detected = s.detected := rfl
@[simp] theorem State.armForEdge_enabled (p : Polarity) :
    (s.armForEdge p).enabled = s.enabled := rfl
@[simp] theorem State.armForEdge_armedPolarity (p : Polarity) :
    (s.armForEdge p).armedPolarity = p := rfl
@[simp] theorem State.armForEdge_count (p : Polarity) : (s.armForEdge p).count = s.count := rfl
@[simp] theorem State.armForEdge_trace (p : Polarity) : (s.armForEdge p).trace = s.trace := rfl
@[simp] theorem State.armForEdge_lastRead (p : Polarity) :
    (s.armForEdge p).lastRead = s.lastRead := rfl
@[simp] theorem State.armForEdge_freeDraws (p : Polarity) :
    (s.armForEdge p).freeDraws = s.freeDraws := rfl

/-! `State.setPhase` -/

@[simp] theorem State.setPhase_phase (p : Phase) : (s.setPhase p).phase = p := rfl
@[simp] theorem State.setPhase_preambleFound (p : Phase) :
    (s.setPhase p).preambleFound = s.preambleFound := rfl
@[simp] theorem State.setPhase_bitIndex (p : Phase) : (s.setPhase p).bitIndex = s.bitIndex := rfl
@[simp] theorem State.setPhase_accumulator (p : Phase) :
    (s.setPhase p).accumulator = s.accumulator := rfl
@[simp] theorem State.setPhase_hiLatch (p : Phase) : (s.setPhase p).hiLatch = s.hiLatch := rfl
@[simp] theorem State.setPhase_address (p : Phase) : (s.setPhase p).address = s.address := rfl
@[simp] theorem State.setPhase_key (p : Phase) : (s.setPhase p).key = s.key := rfl
@[simp] theorem State.setPhase_detected (p : Phase) : (s.setPhase p).detected = s.detected := rfl
@[simp] theorem State.setPhase_enabled (p : Phase) : (s.setPhase p).enabled = s.enabled := rfl
@[simp] theorem State.setPhase_armedPolarity (p : Phase) :
    (s.setPhase p).armedPolarity = s.armedPolarity := rfl
@[simp] theorem State.setPhase_count (p : Phase) : (s.setPhase p).count = s.count := rfl
@[simp] theorem State.setPhase_trace (p : Phase) : (s.setPhase p).trace = s.trace := rfl
@[simp] theorem State.setPhase_lastRead (p : Phase) : (s.setPhase p).lastRead = s.lastRead := rfl
@[simp] theorem State.setPhase_freeDraws (p : Phase) : (s.setPhase p).freeDraws = s.freeDraws := rfl

/-! `State.setHiLatch` -/

@[simp] theorem State.setHiLatch_phase (h : Tick) : (s.setHiLatch h).phase = s.phase := rfl
@[simp] theorem State.setHiLatch_preambleFound (h : Tick) :
    (s.setHiLatch h).preambleFound = s.preambleFound := rfl
@[simp] theorem State.setHiLatch_bitIndex (h : Tick) : (s.setHiLatch h).bitIndex = s.bitIndex := rfl
@[simp] theorem State.setHiLatch_accumulator (h : Tick) :
    (s.setHiLatch h).accumulator = s.accumulator := rfl
@[simp] theorem State.setHiLatch_hiLatch (h : Tick) : (s.setHiLatch h).hiLatch = h := rfl
@[simp] theorem State.setHiLatch_address (h : Tick) : (s.setHiLatch h).address = s.address := rfl
@[simp] theorem State.setHiLatch_key (h : Tick) : (s.setHiLatch h).key = s.key := rfl
@[simp] theorem State.setHiLatch_detected (h : Tick) : (s.setHiLatch h).detected = s.detected := rfl
@[simp] theorem State.setHiLatch_enabled (h : Tick) : (s.setHiLatch h).enabled = s.enabled := rfl
@[simp] theorem State.setHiLatch_armedPolarity (h : Tick) :
    (s.setHiLatch h).armedPolarity = s.armedPolarity := rfl
@[simp] theorem State.setHiLatch_count (h : Tick) : (s.setHiLatch h).count = s.count := rfl
@[simp] theorem State.setHiLatch_trace (h : Tick) : (s.setHiLatch h).trace = s.trace := rfl
@[simp] theorem State.setHiLatch_lastRead (h : Tick) : (s.setHiLatch h).lastRead = s.lastRead := rfl
@[simp] theorem State.setHiLatch_freeDraws (h : Tick) :
    (s.setHiLatch h).freeDraws = s.freeDraws := rfl

/-! `State.setBits` -/

@[simp] theorem State.setBits_phase (i : BitIndex) (a : Accumulator) :
    (s.setBits i a).phase = s.phase := rfl
@[simp] theorem State.setBits_preambleFound (i : BitIndex) (a : Accumulator) :
    (s.setBits i a).preambleFound = s.preambleFound := rfl
@[simp] theorem State.setBits_bitIndex (i : BitIndex) (a : Accumulator) :
    (s.setBits i a).bitIndex = i := rfl
@[simp] theorem State.setBits_accumulator (i : BitIndex) (a : Accumulator) :
    (s.setBits i a).accumulator = a := rfl
@[simp] theorem State.setBits_hiLatch (i : BitIndex) (a : Accumulator) :
    (s.setBits i a).hiLatch = s.hiLatch := rfl
@[simp] theorem State.setBits_address (i : BitIndex) (a : Accumulator) :
    (s.setBits i a).address = s.address := rfl
@[simp] theorem State.setBits_key (i : BitIndex) (a : Accumulator) :
    (s.setBits i a).key = s.key := rfl
@[simp] theorem State.setBits_detected (i : BitIndex) (a : Accumulator) :
    (s.setBits i a).detected = s.detected := rfl
@[simp] theorem State.setBits_enabled (i : BitIndex) (a : Accumulator) :
    (s.setBits i a).enabled = s.enabled := rfl
@[simp] theorem State.setBits_armedPolarity (i : BitIndex) (a : Accumulator) :
    (s.setBits i a).armedPolarity = s.armedPolarity := rfl
@[simp] theorem State.setBits_count (i : BitIndex) (a : Accumulator) :
    (s.setBits i a).count = s.count := rfl
@[simp] theorem State.setBits_trace (i : BitIndex) (a : Accumulator) :
    (s.setBits i a).trace = s.trace := rfl
@[simp] theorem State.setBits_lastRead (i : BitIndex) (a : Accumulator) :
    (s.setBits i a).lastRead = s.lastRead := rfl
@[simp] theorem State.setBits_freeDraws (i : BitIndex) (a : Accumulator) :
    (s.setBits i a).freeDraws = s.freeDraws := rfl

/-! `State.setFields` -/

@[simp] theorem State.setFields_phase (a : Address) (k : Key) :
    (s.setFields a k).phase = s.phase := rfl
@[simp] theorem State.setFields_preambleFound (a : Address) (k : Key) :
    (s.setFields a k).preambleFound = s.preambleFound := rfl
@[simp] theorem State.setFields_bitIndex (a : Address) (k : Key) :
    (s.setFields a k).bitIndex = s.bitIndex := rfl
@[simp] theorem State.setFields_accumulator (a : Address) (k : Key) :
    (s.setFields a k).accumulator = s.accumulator := rfl
@[simp] theorem State.setFields_hiLatch (a : Address) (k : Key) :
    (s.setFields a k).hiLatch = s.hiLatch := rfl
@[simp] theorem State.setFields_address (a : Address) (k : Key) :
    (s.setFields a k).address = a := rfl
@[simp] theorem State.setFields_key (a : Address) (k : Key) : (s.setFields a k).key = k := rfl
@[simp] theorem State.setFields_detected (a : Address) (k : Key) :
    (s.setFields a k).detected = s.detected := rfl
@[simp] theorem State.setFields_enabled (a : Address) (k : Key) :
    (s.setFields a k).enabled = s.enabled := rfl
@[simp] theorem State.setFields_armedPolarity (a : Address) (k : Key) :
    (s.setFields a k).armedPolarity = s.armedPolarity := rfl
@[simp] theorem State.setFields_count (a : Address) (k : Key) :
    (s.setFields a k).count = s.count := rfl
@[simp] theorem State.setFields_trace (a : Address) (k : Key) :
    (s.setFields a k).trace = s.trace := rfl
@[simp] theorem State.setFields_lastRead (a : Address) (k : Key) :
    (s.setFields a k).lastRead = s.lastRead := rfl
@[simp] theorem State.setFields_freeDraws (a : Address) (k : Key) :
    (s.setFields a k).freeDraws = s.freeDraws := rfl

/-! `State.returnRead` -/

@[simp] theorem State.returnRead_phase (r : ReadResult) : (s.returnRead r).phase = s.phase := rfl
@[simp] theorem State.returnRead_preambleFound (r : ReadResult) :
    (s.returnRead r).preambleFound = s.preambleFound := rfl
@[simp] theorem State.returnRead_bitIndex (r : ReadResult) :
    (s.returnRead r).bitIndex = s.bitIndex := rfl
@[simp] theorem State.returnRead_accumulator (r : ReadResult) :
    (s.returnRead r).accumulator = s.accumulator := rfl
@[simp] theorem State.returnRead_hiLatch (r : ReadResult) :
    (s.returnRead r).hiLatch = s.hiLatch := rfl
@[simp] theorem State.returnRead_address (r : ReadResult) :
    (s.returnRead r).address = s.address := rfl
@[simp] theorem State.returnRead_key (r : ReadResult) : (s.returnRead r).key = s.key := rfl
@[simp] theorem State.returnRead_detected (r : ReadResult) :
    (s.returnRead r).detected = s.detected := rfl
@[simp] theorem State.returnRead_enabled (r : ReadResult) :
    (s.returnRead r).enabled = s.enabled := rfl
@[simp] theorem State.returnRead_armedPolarity (r : ReadResult) :
    (s.returnRead r).armedPolarity = s.armedPolarity := rfl
@[simp] theorem State.returnRead_count (r : ReadResult) : (s.returnRead r).count = s.count := rfl
@[simp] theorem State.returnRead_trace (r : ReadResult) : (s.returnRead r).trace = s.trace := rfl
@[simp] theorem State.returnRead_lastRead (r : ReadResult) :
    (s.returnRead r).lastRead = some r := rfl
@[simp] theorem State.returnRead_freeDraws (r : ReadResult) :
    (s.returnRead r).freeDraws = s.freeDraws := rfl

/-! `State.drawFree` -/

@[simp] theorem State.drawFree_phase : s.drawFree.phase = s.phase := rfl
@[simp] theorem State.drawFree_preambleFound : s.drawFree.preambleFound = s.preambleFound := rfl
@[simp] theorem State.drawFree_bitIndex : s.drawFree.bitIndex = s.bitIndex := rfl
@[simp] theorem State.drawFree_accumulator : s.drawFree.accumulator = s.accumulator := rfl
@[simp] theorem State.drawFree_hiLatch : s.drawFree.hiLatch = s.hiLatch := rfl
@[simp] theorem State.drawFree_address : s.drawFree.address = s.address := rfl
@[simp] theorem State.drawFree_key : s.drawFree.key = s.key := rfl
@[simp] theorem State.drawFree_detected : s.drawFree.detected = s.detected := rfl
@[simp] theorem State.drawFree_enabled : s.drawFree.enabled = s.enabled := rfl
@[simp] theorem State.drawFree_armedPolarity : s.drawFree.armedPolarity = s.armedPolarity := rfl
@[simp] theorem State.drawFree_count : s.drawFree.count = s.count := rfl
@[simp] theorem State.drawFree_trace : s.drawFree.trace = s.trace := rfl
@[simp] theorem State.drawFree_lastRead : s.drawFree.lastRead = s.lastRead := rfl
@[simp] theorem State.drawFree_freeDraws : s.drawFree.freeDraws = s.freeDraws + 1 := rfl

/-! `State.pushEvent` -/

@[simp] theorem State.pushEvent_phase (w : EventWord) : (s.pushEvent w).phase = s.phase := rfl
@[simp] theorem State.pushEvent_preambleFound (w : EventWord) :
    (s.pushEvent w).preambleFound = s.preambleFound := rfl
@[simp] theorem State.pushEvent_bitIndex (w : EventWord) :
    (s.pushEvent w).bitIndex = s.bitIndex := rfl
@[simp] theorem State.pushEvent_accumulator (w : EventWord) :
    (s.pushEvent w).accumulator = s.accumulator := rfl
@[simp] theorem State.pushEvent_hiLatch (w : EventWord) : (s.pushEvent w).hiLatch = s.hiLatch := rfl
@[simp] theorem State.pushEvent_address (w : EventWord) : (s.pushEvent w).address = s.address := rfl
@[simp] theorem State.pushEvent_key (w : EventWord) : (s.pushEvent w).key = s.key := rfl
@[simp] theorem State.pushEvent_detected (w : EventWord) :
    (s.pushEvent w).detected = s.detected := rfl
@[simp] theorem State.pushEvent_enabled (w : EventWord) : (s.pushEvent w).enabled = s.enabled := rfl
@[simp] theorem State.pushEvent_armedPolarity (w : EventWord) :
    (s.pushEvent w).armedPolarity = s.armedPolarity := rfl
@[simp] theorem State.pushEvent_count (w : EventWord) : (s.pushEvent w).count = s.count := rfl
@[simp] theorem State.pushEvent_trace (w : EventWord) : (s.pushEvent w).trace = w :: s.trace := rfl
@[simp] theorem State.pushEvent_lastRead (w : EventWord) :
    (s.pushEvent w).lastRead = s.lastRead := rfl
@[simp] theorem State.pushEvent_freeDraws (w : EventWord) :
    (s.pushEvent w).freeDraws = s.freeDraws := rfl

/-! `State.setPreambleFound` -/

@[simp] theorem State.setPreambleFound_phase (b : Bool) :
    (s.setPreambleFound b).phase = s.phase := rfl
@[simp] theorem State.setPreambleFound_preambleFound (b : Bool) :
    (s.setPreambleFound b).preambleFound = b := rfl
@[simp] theorem State.setPreambleFound_bitIndex (b : Bool) :
    (s.setPreambleFound b).bitIndex = s.bitIndex := rfl
@[simp] theorem State.setPreambleFound_accumulator (b : Bool) :
    (s.setPreambleFound b).accumulator = s.accumulator := rfl
@[simp] theorem State.setPreambleFound_hiLatch (b : Bool) :
    (s.setPreambleFound b).hiLatch = s.hiLatch := rfl
@[simp] theorem State.setPreambleFound_address (b : Bool) :
    (s.setPreambleFound b).address = s.address := rfl
@[simp] theorem State.setPreambleFound_key (b : Bool) : (s.setPreambleFound b).key = s.key := rfl
@[simp] theorem State.setPreambleFound_detected (b : Bool) :
    (s.setPreambleFound b).detected = s.detected := rfl
@[simp] theorem State.setPreambleFound_enabled (b : Bool) :
    (s.setPreambleFound b).enabled = s.enabled := rfl
@[simp] theorem State.setPreambleFound_armedPolarity (b : Bool) :
    (s.setPreambleFound b).armedPolarity = s.armedPolarity := rfl
@[simp] theorem State.setPreambleFound_count (b : Bool) :
    (s.setPreambleFound b).count = s.count := rfl
@[simp] theorem State.setPreambleFound_trace (b : Bool) :
    (s.setPreambleFound b).trace = s.trace := rfl
@[simp] theorem State.setPreambleFound_lastRead (b : Bool) :
    (s.setPreambleFound b).lastRead = s.lastRead := rfl
@[simp] theorem State.setPreambleFound_freeDraws (b : Bool) :
    (s.setPreambleFound b).freeDraws = s.freeDraws := rfl

/-! `State.setDetected` -/

@[simp] theorem State.setDetected_phase (b : Bool) : (s.setDetected b).phase = s.phase := rfl
@[simp] theorem State.setDetected_preambleFound (b : Bool) :
    (s.setDetected b).preambleFound = s.preambleFound := rfl
@[simp] theorem State.setDetected_bitIndex (b : Bool) :
    (s.setDetected b).bitIndex = s.bitIndex := rfl
@[simp] theorem State.setDetected_accumulator (b : Bool) :
    (s.setDetected b).accumulator = s.accumulator := rfl
@[simp] theorem State.setDetected_hiLatch (b : Bool) : (s.setDetected b).hiLatch = s.hiLatch := rfl
@[simp] theorem State.setDetected_address (b : Bool) : (s.setDetected b).address = s.address := rfl
@[simp] theorem State.setDetected_key (b : Bool) : (s.setDetected b).key = s.key := rfl
@[simp] theorem State.setDetected_detected (b : Bool) : (s.setDetected b).detected = b := rfl
@[simp] theorem State.setDetected_enabled (b : Bool) : (s.setDetected b).enabled = s.enabled := rfl
@[simp] theorem State.setDetected_armedPolarity (b : Bool) :
    (s.setDetected b).armedPolarity = s.armedPolarity := rfl
@[simp] theorem State.setDetected_count (b : Bool) : (s.setDetected b).count = s.count := rfl
@[simp] theorem State.setDetected_trace (b : Bool) : (s.setDetected b).trace = s.trace := rfl
@[simp] theorem State.setDetected_lastRead (b : Bool) :
    (s.setDetected b).lastRead = s.lastRead := rfl
@[simp] theorem State.setDetected_freeDraws (b : Bool) :
    (s.setDetected b).freeDraws = s.freeDraws := rfl

/-! `State.enable` -/

@[simp] theorem State.enable_phase : s.enable.phase = s.phase := rfl
@[simp] theorem State.enable_preambleFound : s.enable.preambleFound = s.preambleFound := rfl
@[simp] theorem State.enable_bitIndex : s.enable.bitIndex = s.bitIndex := rfl
@[simp] theorem State.enable_accumulator : s.enable.accumulator = s.accumulator := rfl
@[simp] theorem State.enable_hiLatch : s.enable.hiLatch = s.hiLatch := rfl
@[simp] theorem State.enable_address : s.enable.address = s.address := rfl
@[simp] theorem State.enable_key : s.enable.key = s.key := rfl
@[simp] theorem State.enable_detected : s.enable.detected = s.detected := rfl
@[simp] theorem State.enable_enabled : s.enable.enabled = true := rfl
@[simp] theorem State.enable_armedPolarity : s.enable.armedPolarity = s.armedPolarity := rfl
@[simp] theorem State.enable_count : s.enable.count = s.count := rfl
@[simp] theorem State.enable_trace : s.enable.trace = s.trace := rfl
@[simp] theorem State.enable_lastRead : s.enable.lastRead = s.lastRead := rfl
@[simp] theorem State.enable_freeDraws : s.enable.freeDraws = s.freeDraws := rfl

/-! `State.disable` -/

@[simp] theorem State.disable_phase : s.disable.phase = s.phase := rfl
@[simp] theorem State.disable_preambleFound : s.disable.preambleFound = s.preambleFound := rfl
@[simp] theorem State.disable_bitIndex : s.disable.bitIndex = s.bitIndex := rfl
@[simp] theorem State.disable_accumulator : s.disable.accumulator = s.accumulator := rfl
@[simp] theorem State.disable_hiLatch : s.disable.hiLatch = s.hiLatch := rfl
@[simp] theorem State.disable_address : s.disable.address = s.address := rfl
@[simp] theorem State.disable_key : s.disable.key = s.key := rfl
@[simp] theorem State.disable_detected : s.disable.detected = s.detected := rfl
@[simp] theorem State.disable_enabled : s.disable.enabled = false := rfl
@[simp] theorem State.disable_armedPolarity : s.disable.armedPolarity = s.armedPolarity := rfl
@[simp] theorem State.disable_count : s.disable.count = s.count := rfl
@[simp] theorem State.disable_trace : s.disable.trace = s.trace := rfl
@[simp] theorem State.disable_lastRead : s.disable.lastRead = s.lastRead := rfl
@[simp] theorem State.disable_freeDraws : s.disable.freeDraws = s.freeDraws := rfl

/-! `State.clearDecoder` -/

@[simp] theorem State.clearDecoder_phase : s.clearDecoder.phase = s.phase := rfl
@[simp] theorem State.clearDecoder_preambleFound : s.clearDecoder.preambleFound = false := rfl
@[simp] theorem State.clearDecoder_bitIndex : s.clearDecoder.bitIndex = 0#5 := rfl
@[simp] theorem State.clearDecoder_accumulator : s.clearDecoder.accumulator = 0#24 := rfl
@[simp] theorem State.clearDecoder_hiLatch : s.clearDecoder.hiLatch = 0#tickW := rfl
@[simp] theorem State.clearDecoder_address : s.clearDecoder.address = s.address := rfl
@[simp] theorem State.clearDecoder_key : s.clearDecoder.key = s.key := rfl
@[simp] theorem State.clearDecoder_detected : s.clearDecoder.detected = s.detected := rfl
@[simp] theorem State.clearDecoder_enabled : s.clearDecoder.enabled = s.enabled := rfl
@[simp] theorem State.clearDecoder_armedPolarity :
    s.clearDecoder.armedPolarity = s.armedPolarity := rfl
@[simp] theorem State.clearDecoder_count : s.clearDecoder.count = s.count := rfl
@[simp] theorem State.clearDecoder_trace : s.clearDecoder.trace = s.trace := rfl
@[simp] theorem State.clearDecoder_lastRead : s.clearDecoder.lastRead = s.lastRead := rfl
@[simp] theorem State.clearDecoder_freeDraws : s.clearDecoder.freeDraws = s.freeDraws := rfl

/-! `State.normalEpilogue` -/

@[simp] theorem State.normalEpilogue_phase : s.normalEpilogue.phase = .awaitingFallingEdge := rfl
@[simp] theorem State.normalEpilogue_preambleFound :
    s.normalEpilogue.preambleFound = s.preambleFound := rfl
@[simp] theorem State.normalEpilogue_bitIndex : s.normalEpilogue.bitIndex = s.bitIndex := rfl
@[simp] theorem State.normalEpilogue_accumulator :
    s.normalEpilogue.accumulator = s.accumulator := rfl
@[simp] theorem State.normalEpilogue_hiLatch : s.normalEpilogue.hiLatch = s.hiLatch := rfl
@[simp] theorem State.normalEpilogue_address : s.normalEpilogue.address = s.address := rfl
@[simp] theorem State.normalEpilogue_key : s.normalEpilogue.key = s.key := rfl
@[simp] theorem State.normalEpilogue_detected : s.normalEpilogue.detected = s.detected := rfl
@[simp] theorem State.normalEpilogue_enabled : s.normalEpilogue.enabled = s.enabled := rfl
@[simp] theorem State.normalEpilogue_armedPolarity :
    s.normalEpilogue.armedPolarity = .falling := rfl
@[simp] theorem State.normalEpilogue_count : s.normalEpilogue.count = 0#tickW := rfl
@[simp] theorem State.normalEpilogue_trace : s.normalEpilogue.trace = s.trace := rfl
@[simp] theorem State.normalEpilogue_lastRead : s.normalEpilogue.lastRead = s.lastRead := rfl
@[simp] theorem State.normalEpilogue_freeDraws : s.normalEpilogue.freeDraws = s.freeDraws := rfl

/-! `State.publish` -/

@[simp] theorem State.publish_phase (f : Accumulator) : (s.publish f).phase = s.phase := rfl
@[simp] theorem State.publish_preambleFound (f : Accumulator) :
    (s.publish f).preambleFound = s.preambleFound := rfl
@[simp] theorem State.publish_bitIndex (f : Accumulator) :
    (s.publish f).bitIndex = s.bitIndex := rfl
@[simp] theorem State.publish_accumulator (f : Accumulator) :
    (s.publish f).accumulator = s.accumulator := rfl
@[simp] theorem State.publish_hiLatch (f : Accumulator) : (s.publish f).hiLatch = s.hiLatch := rfl
@[simp] theorem State.publish_address (f : Accumulator) :
    (s.publish f).address = frameAddress f := rfl
@[simp] theorem State.publish_key (f : Accumulator) : (s.publish f).key = frameKey f := rfl
@[simp] theorem State.publish_detected (f : Accumulator) : (s.publish f).detected = true := rfl
@[simp] theorem State.publish_enabled (f : Accumulator) : (s.publish f).enabled = s.enabled := rfl
@[simp] theorem State.publish_armedPolarity (f : Accumulator) :
    (s.publish f).armedPolarity = s.armedPolarity := rfl
@[simp] theorem State.publish_count (f : Accumulator) : (s.publish f).count = s.count := rfl
@[simp] theorem State.publish_trace (f : Accumulator) : (s.publish f).trace = s.trace := rfl
@[simp] theorem State.publish_lastRead (f : Accumulator) :
    (s.publish f).lastRead = s.lastRead := rfl
@[simp] theorem State.publish_freeDraws (f : Accumulator) :
    (s.publish f).freeDraws = s.freeDraws := rfl

end Sys2Proof.Machine
end

