-- ==== Sys2Proof/Machine/Trace.lean ====
section
/-! DEFINITION. The assembler level (spec/30_encoding.md R60 to R62): pseudo-operations, read assertions, the
line syntax, and the run of a trace with its assertions. A text is a list of characters
(notes/assumptions/13.md says what R60 leaves open of the syntax). -/

namespace Sys2Proof.Machine

/-- Operations performed in order, each as one atomic step, up to the first that has none (R50,
R58). -/
def execAll : List Instr → State → Result
  | [], s => .next s
  | i :: is, s =>
    match exec i s with
    | .next s' => execAll is s'
    | .fault r => .fault r
    | .refused r => .refused r

/-- `NOTIFY t` written with a natural number; a number no legal word carries is refused (R52, R57). -/
def notifyLine (t : Nat) : Option Instr :=
  if t < 2 ^ tickW then some (.notify (BitVec.ofNat 24 t)) else none

/-- `TICK n` written with a natural number (R52). -/
def tickLine (n : Nat) : Option Instr :=
  if n < 2 ^ 24 then some (.tick (BitVec.ofNat 24 n)) else none

/-- The pseudo-operations (R61). -/
inductive Pseudo where
  | start
  | pulse (h l : Nat)
  | pre
  | bit1 (t : Nat)
  | bit0 (t : Nat)
  | frame (v : Frame24) (t : Nat)
  | hi (n : Nat)
  | lo (n : Nat)
deriving DecidableEq, Repr

/-- The HIGH and LOW of the `PULSE` of one bit with base period `t`: `BIT1 t` is `PULSE 3*t, t`,
`BIT0 t` is `PULSE t, 3*t` (R61). -/
def bitPulse (t : Nat) (b : Bool) : List Nat := if b then [3 * t, t] else [t, 3 * t]

/-- The readings of `FRAME v, t`: 24 data bits, most significant first (R61). -/
def frameReadings (v : Frame24) (t : Nat) : List Nat :=
  (List.range frameBits).flatMap fun k => bitPulse t (v.getLsbD (23 - k))

/-- All the lines, or nothing if one of them is refused. -/
def allLines : List (Option Instr) → Option (List Instr)
  | [] => some []
  | none :: _ => none
  | some i :: rest => (allLines rest).map fun is => i :: is

/-- The expansion of a pseudo-operation, in order (R61). -/
def Pseudo.expand : Pseudo → Option (List Instr)
  | .start => allLines [notifyLine 0]
  | .pulse h l => allLines [notifyLine h, notifyLine l]
  | .pre => allLines [notifyLine 640, notifyLine 20000]
  | .bit1 t => allLines ((bitPulse t true).map notifyLine)
  | .bit0 t => allLines ((bitPulse t false).map notifyLine)
  | .frame v t => allLines ((frameReadings v t).map notifyLine)
  | .hi n => allLines [tickLine n, some (.line .falling)]
  | .lo n => allLines [tickLine n, some (.line .rising)]

/-- The number a read returned (R62). -/
def ReadResult.value : ReadResult → Nat
  | .frame v => v.toNat
  | .address v => v.toNat
  | .key v => v.toNat
  | .detected v => v.toNat

/-- `-> value`: the value asserted, and the bits of its unknown digits `?` (R62). -/
structure ReadAssertion where
  value : Nat
  unknown : Nat
deriving DecidableEq, Repr

/-- The returned value agrees on every known bit (R62). -/
def ReadAssertion.holds (a : ReadAssertion) (r : ReadResult) : Bool :=
  r.value ||| a.unknown == a.value ||| a.unknown

/-- One line of a trace: an operation, and the assertion that follows a read (R60). -/
structure Line where
  op : Instr
  expect : Option ReadAssertion
deriving DecidableEq, Repr

/-- The line's assertion holds of the value just returned. -/
def Line.holds (l : Line) (s : State) : Bool :=
  match l.expect, s.lastRead with
  | none, _ => true
  | some a, some r => a.holds r
  | some _, none => false

/-- Why the run of a trace stops: a refused word rejects the trace (R58), and an assertion can fail
(R62). -/
inductive TraceStop where
  | refused (why : Refusal)
  | faulted (why : Fault)
  | assertionFailed
deriving DecidableEq, Repr

/-- The run of a trace with its assertions (R60, R62). -/
def runLines : List Line → State → Except TraceStop State
  | [], s => .ok s
  | l :: ls, s =>
    match exec l.op s with
    | .next s' => if l.holds s' then runLines ls s' else .error .assertionFailed
    | .fault r => .error (.faulted r)
    | .refused r => .error (.refused r)

/-- What separates the words of a line. -/
def isSeparator (c : Char) : Bool := c == ' ' || c == ',' || c == '\t'

/-- A word read so far, if it has a character. -/
def closeWord (word : List Char) : List (List Char) := if word.isEmpty then [] else [word]

/-- The words of a line; "Text after `;` is comment" (R60). -/
def lineWords (word : List Char) : List Char → List (List Char)
  | [] => closeWord word
  | c :: cs =>
    if c == ';' then closeWord word
    else if isSeparator c then closeWord word ++ lineWords [] cs
    else lineWords (word ++ [c]) cs

/-- The digits of R60's numbers, each at the place that is its value: decimal uses the first ten. -/
def numerals : List Char := "0123456789ABCDEF".toList

/-- The value of a hexadecimal digit of either case: its place among the numerals. -/
def digitValue (c : Char) : Option Nat := numerals.idxOf? c.toUpper

/-- The number a run of digits spells in a base, most significant first, `acc` being what was read
before it; none where a character is no digit of the base. -/
def digits (base acc : Nat) (text : List Char) : Option Nat :=
  text.foldlM (fun v c => ((digitValue c).filter (· < base)).map fun d => base * v + d) acc

/-- A decimal or `0x` hexadecimal natural number (R60). -/
def number : List Char → Option Nat
  | [] => none
  | ['0', 'x'] => none
  | '0' :: 'x' :: ds => digits 16 0 ds
  | ds => digits 10 0 ds

/-- The hexadecimal digits of an assertion, `?` for an unknown one (R62). -/
def assertedDigits (a : ReadAssertion) : List Char → Option ReadAssertion
  | [] => some a
  | c :: cs =>
    if c == '?' then assertedDigits ⟨16 * a.value, 16 * a.unknown + 15⟩ cs
    else
      match digitValue c with
      | some d => assertedDigits ⟨16 * a.value + d, 16 * a.unknown⟩ cs
      | none => none

/-- The value of an assertion: a number, or hexadecimal with unknown digits (R62). -/
def assertion : List Char → Option ReadAssertion
  | ['0', 'x'] => none
  | '0' :: 'x' :: ds => assertedDigits ⟨0, 0⟩ ds
  | ds => (number ds).map fun v => ⟨v, 0⟩

/-- A polarity operand, `R` or `F` (R60). -/
def polarityWord : List Char → Option Polarity
  | ['R'] => some .rising
  | ['F'] => some .falling
  | _ => none

/-- The operations without operand, by mnemonic (R51). -/
def plainMnemonics : List (List Char × Instr) :=
  [ (['C', 'L', 'R', 'D', 'E', 'T'], .clrdet),
    (['R', 'E', 'A', 'R', 'M'], .rearm),
    (['D', 'I', 'S', 'A', 'B', 'L', 'E'], .disable),
    (['R', 'E', 'S', 'E', 'T'], .reset) ]

/-- The read operations, by mnemonic (R51). -/
def readMnemonics : List (List Char × Instr) :=
  [ (['R', 'D', 'F', 'R', 'A', 'M', 'E'], .rdframe),
    (['R', 'D', 'A', 'D', 'D', 'R'], .rdaddr),
    (['R', 'D', 'K', 'E', 'Y'], .rdkey),
    (['R', 'D', 'D', 'E', 'T'], .rddet) ]

/-- The operations and pseudo-operations with one number, by mnemonic (R51, R61). -/
def numberMnemonics : List (List Char × (Nat → Option (List Instr))) :=
  [ (['N', 'O', 'T', 'I', 'F', 'Y'], fun t => allLines [notifyLine t]),
    (['T', 'I', 'C', 'K'], fun n => allLines [tickLine n]),
    (['B', 'I', 'T', '1'], fun t => (Pseudo.bit1 t).expand),
    (['B', 'I', 'T', '0'], fun t => (Pseudo.bit0 t).expand),
    (['H', 'I'], fun n => (Pseudo.hi n).expand),
    (['L', 'O'], fun n => (Pseudo.lo n).expand) ]

/-- The pseudo-operations with two numbers, by mnemonic (R61); the value of `FRAME` has 24 bits. -/
def pairMnemonics : List (List Char × (Nat → Nat → Option (List Instr))) :=
  [ (['P', 'U', 'L', 'S', 'E'], fun h l => (Pseudo.pulse h l).expand),
    (['F', 'R', 'A', 'M', 'E'], fun v t =>
      if v < 2 ^ 24 then (Pseudo.frame (BitVec.ofNat 24 v) t).expand else none) ]

/-- Operations as lines without assertion. -/
def asLines (is : List Instr) : List Line := is.map fun i => ⟨i, none⟩

/-- A line of one word. -/
def wordLine (m : List Char) : Option (List Line) :=
  if m = ['S', 'T', 'A', 'R', 'T'] then Pseudo.start.expand.map asLines
  else if m = ['P', 'R', 'E'] then Pseudo.pre.expand.map asLines
  else
    match plainMnemonics.lookup m, readMnemonics.lookup m with
    | some i, _ => some [⟨i, none⟩]
    | none, some i => some [⟨i, none⟩]
    | none, none => none

/-- A line of a mnemonic and one operand. -/
def operandLine (m x : List Char) : Option (List Line) :=
  if m = ['L', 'I', 'N', 'E'] then (polarityWord x).map fun p => [⟨.line p, none⟩]
  else
    match numberMnemonics.lookup m, number x with
    | some f, some n => (f n).map asLines
    | _, _ => none

/-- A line of a mnemonic and two operands. -/
def pairLine (m x y : List Char) : Option (List Line) :=
  match pairMnemonics.lookup m, number x, number y with
  | some f, some a, some b => (f a b).map asLines
  | _, _, _ => none

/-- A read with its assertion, `-> value`. -/
def assertedLine (m x : List Char) : Option (List Line) :=
  match readMnemonics.lookup m, assertion x with
  | some i, some a => some [⟨i, some a⟩]
  | _, _ => none

/-- The lines a text line stands for (R60, R61); none where it is no line of the syntax. -/
def parseLine (text : List Char) : Option (List Line) :=
  match lineWords [] text with
  | [] => some []
  | [m] => wordLine m
  | [m, x] => operandLine m x
  | [m, x, y] => if x = ['-', '>'] then assertedLine m y else pairLine m x y
  | _ => none

end Sys2Proof.Machine
end

