-- ==== Sys2Proof/Laws/Ops.lean ====
section
/-! SUPPORT. What each shared operation can do, said once: the guard of the `NOTIFY` rows, the selection of
a sub-operation, the verdict, `NOTIFY` itself, the step, and runs of operations. -/

namespace Sys2Proof.Machine

/-! Tick counts -/

/-- The width of the built instance (R7, notes/assumptions/1.md). -/
theorem tickW_eq : tickW = 16 := rfl

/-- `2^TICK_W - 1` of the built instance. -/
theorem tickMax_eq : Config.built.tickMax = 65535 := rfl

theorem Tick.toNat_lt (t : Tick) : t.toNat < 65536 := t.isLt

theorem Arg.legalReading_iff (t : Arg) : t.LegalReading ↔ t.toNat < 65536 := Iff.rfl

/-- The value used of a legal reading is the reading (R52). -/
theorem legalReading_toNat {t : Arg} (h : t.LegalReading) : (t.setWidth tickW).toNat = t.toNat := by
  simp only [BitVec.toNat_setWidth]
  exact Nat.mod_eq_of_lt h

/-- A tick count is a legal reading, and is used as it is. -/
theorem tick_legalReading (t : Tick) : Arg.LegalReading (t.setWidth 24) := by
  have := Tick.toNat_lt t
  rw [Arg.legalReading_iff]
  simp only [BitVec.toNat_setWidth]
  omega

theorem tick_setWidth_setWidth (t : Tick) : (t.setWidth 24).setWidth tickW = t := by
  apply BitVec.eq_of_toNat_eq
  have := Tick.toNat_lt t
  rw [legalReading_toNat (tick_legalReading t)]
  simp only [BitVec.toNat_setWidth]
  omega

theorem saturatingTicks_toNat (c : Tick) (n : Nat) :
    (saturatingTicks c n).toNat = min (c.toNat + n) 65535 := by
  have h : min (c.toNat + n) 65535 % 2 ^ 16 = min (c.toNat + n) 65535 := by omega
  exact h

/-! The guard of the `NOTIFY` rows -/

/-- A `NOTIFY` row that answers a next state had a legal reading and was enabled. -/
theorem notified_next {t : Arg} {s u : State} {f : Tick → Result} (h : notified t s f = .next u) :
    t.LegalReading ∧ s.enabled = true ∧ f (t.setWidth tickW) = .next u := by
  unfold notified at h
  split at h
  · split at h
    · exact ⟨‹_›, ‹_›, h⟩
    · cases h
  · cases h

theorem notified_eq {t : Arg} {s : State} (f : Tick → Result) (ht : t.LegalReading)
    (he : s.enabled = true) : notified t s f = f (t.setWidth tickW) := by
  unfold notified
  rw [if_pos ht, if_pos he]

theorem notified_of_disabled {t : Arg} {s : State} (f : Tick → Result) (ht : t.LegalReading)
    (he : s.enabled = false) : notified t s f = .refused .notifyWhileDisabled := by
  unfold notified
  rw [if_pos ht, if_neg (by simp [he])]

/-- A sub-operation row that answers a next state was selected. -/
theorem selectedNotify_next {o : SubOp} {t : Arg} {s u : State} {f : Tick → State → State}
    (h : selectedNotify o t s f = .next u) :
    t.LegalReading ∧ s.enabled = true ∧ SubOp.selected o (t.setWidth tickW) s = true ∧
      u = f (t.setWidth tickW) (s.setCount (t.setWidth tickW)) := by
  obtain ⟨ht, he, h⟩ := notified_next h
  split at h
  · cases h; exact ⟨ht, he, ‹_›, rfl⟩
  · cases h

theorem selectedNotify_eq {o : SubOp} {t : Arg} {s : State} (f : Tick → State → State)
    (ht : t.LegalReading) (he : s.enabled = true)
    (hs : SubOp.selected o (t.setWidth tickW) s = true) :
    selectedNotify o t s f = .next (f (t.setWidth tickW) (s.setCount (t.setWidth tickW))) := by
  unfold selectedNotify
  rw [notified_eq _ ht he, if_pos hs]

/-! The classifier -/

theorem validRange_iff (c : Config) (low high : Nat) :
    validRange c low high = true ↔
      c.validMin ≤ low ∧ low ≤ c.validMax ∧ c.validMin ≤ high ∧ high ≤ c.validMax := by
  simp [validRange, and_assoc]

theorem isPreamble_iff (c : Config) (low high : Nat) :
    isPreamble c low high = true ↔
      c.preHighMin ≤ high ∧ high ≤ c.preHighMax ∧ c.ratioMin * high ≤ low ∧
        low ≤ c.ratioMax * high := by
  simp [isPreamble, and_assoc]

theorem decodeBit_iff (low high : Nat) : decodeBit low high = true ↔ 3 * low ≤ 2 * high := by
  simp [decodeBit]

@[simp] theorem State.setCount_sample (s : State) (c t : Tick) :
    (s.setCount c).sample t = s.sample t := rfl

/-! `NOTIFY` -/

/-- What `NOTIFY` past its precondition can do, said once: one of the seven sub-operations, with the
condition R56 gives it (for `RISE.DONE`, R68's "not below 23"). -/
theorem phaseState_cases (t : Tick) (s : State) :
    (s.phase = .awaitingFirstEdge ∧ phaseState t s = edgeFirstState s) ∨
    (s.phase = .awaitingFallingEdge ∧ phaseState t s = edgeFallState t s) ∨
    (s.phase = .awaitingRisingEdge ∧
      ((s.preambleFound = false ∧ (s.sample t).preamble = false ∧
          phaseState t s = riseMissState s) ∨
       (s.preambleFound = false ∧ (s.sample t).preamble = true ∧
          phaseState t s = riseSyncState s) ∨
       (s.preambleFound = true ∧ (s.sample t).valid = false ∧
          phaseState t s = riseDesyncState s) ∨
       (s.preambleFound = true ∧ (s.sample t).valid = true ∧ s.bitIndex.toNat ≤ 22 ∧
          phaseState t s = riseBitState (s.sample t).bit s) ∨
       (s.preambleFound = true ∧ (s.sample t).valid = true ∧ 23 ≤ s.bitIndex.toNat ∧
          phaseState t s = riseDoneState (s.sample t).bit s))) := by
  cases hp : s.phase
  · exact .inl ⟨rfl, by simp [phaseState, hp]⟩
  · exact .inr (.inl ⟨rfl, by simp [phaseState, hp]⟩)
  · refine .inr (.inr ⟨rfl, ?_⟩)
    have hr : phaseState t s = riseState t s := by simp [phaseState, hp]
    rw [hr]
    unfold riseState PulseSample.verdict classify
    cases hf : s.preambleFound
    · cases hq : (s.sample t).preamble
      · have hq' := hq
        unfold PulseSample.preamble at hq'
        simp [hq']
      · have hq' := hq
        unfold PulseSample.preamble at hq'
        simp [hq']
    · cases hv : (s.sample t).valid
      · have hv' := hv
        unfold PulseSample.valid at hv'
        simp [hv']
      · have hv' := hv
        unfold PulseSample.valid at hv'
        by_cases hb : s.bitIndex.toNat ≤ 22
        · simp [hv', hb, PulseSample.bit]
        · simp [hv', hb, PulseSample.bit]; omega

/-- `NOTIFY` in each of R56's seven cases. -/
theorem phaseState_edgeFirst {t : Tick} {s : State} (hp : s.phase = .awaitingFirstEdge) :
    phaseState t s = edgeFirstState s := by
  simp only [phaseState, hp]

theorem phaseState_edgeFall {t : Tick} {s : State} (hp : s.phase = .awaitingFallingEdge) :
    phaseState t s = edgeFallState t s := by
  simp only [phaseState, hp]

theorem phaseState_riseMiss {t : Tick} {s : State} (hp : s.phase = .awaitingRisingEdge)
    (hf : s.preambleFound = false) (hq : (s.sample t).preamble = false) :
    phaseState t s = riseMissState s := by
  rcases phaseState_cases t s with h | h | ⟨-, h | h | h | h | h⟩ <;> simp_all

theorem phaseState_riseSync {t : Tick} {s : State} (hp : s.phase = .awaitingRisingEdge)
    (hf : s.preambleFound = false) (hq : (s.sample t).preamble = true) :
    phaseState t s = riseSyncState s := by
  rcases phaseState_cases t s with h | h | ⟨-, h | h | h | h | h⟩ <;> simp_all

theorem phaseState_riseDesync {t : Tick} {s : State} (hp : s.phase = .awaitingRisingEdge)
    (hf : s.preambleFound = true) (hv : (s.sample t).valid = false) :
    phaseState t s = riseDesyncState s := by
  rcases phaseState_cases t s with h | h | ⟨-, h | h | h | h | h⟩ <;> simp_all

theorem phaseState_riseBit {t : Tick} {s : State} (hp : s.phase = .awaitingRisingEdge)
    (hf : s.preambleFound = true) (hv : (s.sample t).valid = true) (hb : s.bitIndex.toNat ≤ 22) :
    phaseState t s = riseBitState (s.sample t).bit s := by
  rcases phaseState_cases t s with h | h | ⟨-, h | h | h | h | ⟨-, -, h, -⟩⟩ <;>
    first | omega | simp_all

theorem phaseState_riseDone {t : Tick} {s : State} (hp : s.phase = .awaitingRisingEdge)
    (hf : s.preambleFound = true) (hv : (s.sample t).valid = true) (hb : 23 ≤ s.bitIndex.toNat) :
    phaseState t s = riseDoneState (s.sample t).bit s := by
  rcases phaseState_cases t s with h | h | ⟨-, h | h | h | ⟨-, -, h, -⟩ | h⟩ <;>
    first | omega | simp_all

/-! Each sub-operation as one record update -/

theorem edgeFirstState_eq (s : State) :
    edgeFirstState s = { s with
      hiLatch := 0#tickW
      count := 0#tickW
      phase := .awaitingFallingEdge
      armedPolarity := .falling } := rfl

theorem edgeFallState_eq (t : Tick) (s : State) :
    edgeFallState t s = { s with
      hiLatch := t
      count := 0#tickW
      phase := .awaitingRisingEdge
      armedPolarity := .rising } := rfl

theorem riseMissState_eq (s : State) :
    riseMissState s = { s with
      count := 0#tickW
      phase := .awaitingFallingEdge
      armedPolarity := .falling } := rfl

theorem riseSyncState_eq (s : State) :
    riseSyncState s = { s with
      preambleFound := true
      bitIndex := 0#5
      accumulator := 0#24
      count := 0#tickW
      phase := .awaitingFallingEdge
      armedPolarity := .falling } := rfl

theorem riseDesyncState_eq (s : State) :
    riseDesyncState s = { s with
      preambleFound := false
      bitIndex := 0#5
      accumulator := 0#24
      hiLatch := 0#tickW
      count := 0#tickW
      phase := .awaitingRisingEdge
      armedPolarity := .rising } := rfl

theorem riseBitState_eq (b : Bool) (s : State) :
    riseBitState b s = { s with
      bitIndex := s.bitIndex + 1#5
      accumulator := insertBit s.accumulator s.bitIndex.toNat b
      count := 0#tickW
      phase := .awaitingFallingEdge
      armedPolarity := .falling } := rfl

theorem riseDoneState_eq (b : Bool) (s : State) :
    riseDoneState b s = { s with
      address := frameAddress (insertBit s.accumulator 23 b)
      key := frameKey (insertBit s.accumulator 23 b)
      detected := true
      preambleFound := false
      phase := .awaitingFirstEdge
      bitIndex := 0#5
      accumulator := 0#24
      hiLatch := 0#tickW
      enabled := false } := rfl

/-- `NOTIFY` of a legal reading while enabled. -/
theorem exec_notify_eq {t : Arg} {s : State} (ht : t.LegalReading) (he : s.enabled = true) :
    exec (.notify t) s = .next (notifyState (t.setWidth tickW) s) := by
  simp only [exec, execNotify]
  exact notified_eq _ ht he

/-! The step -/

@[simp] theorem State.nextEvent_nil {s : State} (h : s.trace = []) : s.nextEvent = none := by
  simp [State.nextEvent, h]

theorem State.nextEvent_cons {s : State} {w : EventWord} {ws : List EventWord}
    (h : s.trace = w :: ws) : s.nextEvent = some (w, { s with trace := ws }) := by
  simp [State.nextEvent, h]

@[simp] theorem State.nextEvent_pushEvent (s : State) (w : EventWord) :
    (s.pushEvent w).nextEvent = some (w, s) := rfl

/-- What a step that answers a next state did: it waited, or it performed the decoded operation on the
machine with the rest of the trace. -/
theorem step_next {s u : State} (h : step s = .next u) :
    (s.trace = [] ∧ u = s) ∨
      ∃ w ws i, s.trace = w :: ws ∧ decode w = .ok i ∧ exec i { s with trace := ws } = .next u := by
  unfold step at h
  cases ht : s.trace with
  | nil =>
    rw [State.nextEvent_nil ht] at h
    cases h
    exact .inl ⟨rfl, rfl⟩
  | cons w ws =>
    rw [State.nextEvent_cons ht] at h
    cases hd : decode w with
    | error e => simp [hd] at h
    | ok i => exact .inr ⟨w, ws, i, rfl, hd, by simpa [hd] using h⟩

/-! Runs of operations -/

@[simp] theorem execAll_nil (s : State) : execAll [] s = .next s := rfl

theorem execAll_cons {i : Instr} {s u : State} (is : List Instr) (h : exec i s = .next u) :
    execAll (i :: is) s = execAll is u := by
  simp [execAll, h]

theorem execAll_append {is js : List Instr} {s u : State} (h : execAll is s = .next u) :
    execAll (is ++ js) s = execAll js u := by
  induction is generalizing s with
  | nil => cases h; rfl
  | cons i is ih =>
    simp only [execAll, List.cons_append] at h ⊢
    split at h
    · next s' hs => exact ih h
    · cases h
    · cases h

end Sys2Proof.Machine
end

