-- ==== Sys2Proof/Laws/Exec.lean ====
section
/-! SUPPORT. What an operation that answers a next state did, said once: the rows of the core run `NOTIFY`,
`LINE` delivers one or nothing, `TICK` sets the count or nothing, and the application's operations and
`RESET` are single record updates. -/

namespace Sys2Proof.Machine

/-- Where R56 selects a sub-operation, its effect is what `NOTIFY` does. -/
theorem selected_notifyState {t : Tick} {s : State} :
    (SubOp.selected .edgeFirst t s = true → edgeFirstState (s.setCount t) = notifyState t s) ∧
    (SubOp.selected .edgeFall t s = true → edgeFallState t (s.setCount t) = notifyState t s) ∧
    (SubOp.selected .riseMiss t s = true → riseMissState (s.setCount t) = notifyState t s) ∧
    (SubOp.selected .riseSync t s = true → riseSyncState (s.setCount t) = notifyState t s) ∧
    (SubOp.selected .riseDesync t s = true → riseDesyncState (s.setCount t) = notifyState t s) ∧
    (SubOp.selected .riseBit t s = true →
      riseBitState (s.sample t).bit (s.setCount t) = notifyState t s) ∧
    (SubOp.selected .riseDone t s = true →
      riseDoneState (s.sample t).bit (s.setCount t) = notifyState t s) := by
  unfold notifyState
  refine ⟨fun h => ?_, fun h => ?_, fun h => ?_, fun h => ?_, fun h => ?_, fun h => ?_,
    fun h => ?_⟩ <;> simp only [SubOp.selected, Bool.and_eq_true, beq_iff_eq,
      Bool.not_eq_true', decide_eq_true_eq] at h
  · exact (phaseState_edgeFirst (s := s.setCount t) h).symm
  · exact (phaseState_edgeFall (s := s.setCount t) h).symm
  · exact (phaseState_riseMiss (s := s.setCount t) h.1.1 h.1.2 h.2).symm
  · exact (phaseState_riseSync (s := s.setCount t) h.1.1 h.1.2 h.2).symm
  · exact (phaseState_riseDesync (s := s.setCount t) h.1.1 h.1.2 h.2).symm
  · exact (phaseState_riseBit (s := s.setCount t) h.1.1.1 h.1.1.2 h.1.2 h.2).symm
  · exact (phaseState_riseDone (s := s.setCount t) h.1.1.1 h.1.1.2 h.1.2 (le_of_eq h.2.symm)).symm

/-- An operation of the core that answers a next state was enabled, and did what `NOTIFY` does. -/
theorem exec_core_next {i : Instr} {s u : State} (hi : i.agent = .core) (h : exec i s = .next u) :
    s.enabled = true ∧ ∃ t : Tick, u = notifyState t s := by
  cases i with
  | notify t =>
    simp only [exec, execNotify] at h
    obtain ⟨-, he, h⟩ := notified_next h
    cases h
    exact ⟨he, _, rfl⟩
  | edgeFirst t =>
    simp only [exec, execEdgeFirst] at h
    obtain ⟨-, he, hs, rfl⟩ := selectedNotify_next h
    exact ⟨he, _, selected_notifyState.1 hs⟩
  | edgeFall t =>
    simp only [exec, execEdgeFall] at h
    obtain ⟨-, he, hs, rfl⟩ := selectedNotify_next h
    exact ⟨he, _, selected_notifyState.2.1 hs⟩
  | riseMiss t =>
    simp only [exec, execRiseMiss] at h
    obtain ⟨-, he, hs, rfl⟩ := selectedNotify_next h
    exact ⟨he, _, selected_notifyState.2.2.1 hs⟩
  | riseSync t =>
    simp only [exec, execRiseSync] at h
    obtain ⟨-, he, hs, rfl⟩ := selectedNotify_next h
    exact ⟨he, _, selected_notifyState.2.2.2.1 hs⟩
  | riseDesync t =>
    simp only [exec, execRiseDesync] at h
    obtain ⟨-, he, hs, rfl⟩ := selectedNotify_next h
    exact ⟨he, _, selected_notifyState.2.2.2.2.1 hs⟩
  | riseBit t =>
    simp only [exec, execRiseBit] at h
    obtain ⟨-, he, hs, rfl⟩ := selectedNotify_next h
    exact ⟨he, _, selected_notifyState.2.2.2.2.2.1 hs⟩
  | riseDone t =>
    simp only [exec, execRiseDone] at h
    obtain ⟨-, he, hs, rfl⟩ := selectedNotify_next h
    exact ⟨he, _, selected_notifyState.2.2.2.2.2.2 hs⟩
  | tick _ | line _ | clrdet | rearm | disable | rdframe | rdaddr | rdkey | rddet | reset => cases hi

/-- `LINE` did nothing, or what `NOTIFY` of the current count does. -/
theorem exec_line_next {p : Polarity} {s u : State} (h : exec (.line p) s = .next u) :
    u = s ∨ (s.enabled = true ∧ s.armedPolarity = p ∧ u = notifyState s.count s) := by
  simp only [exec, execLine] at h
  split at h
  · next hc =>
    cases h
    simp only [Bool.and_eq_true, beq_iff_eq] at hc
    exact .inr ⟨hc.1, hc.2.symm, rfl⟩
  · cases h; exact .inl rfl

/-- `TICK` set the count, or did nothing. -/
theorem exec_tick_next {n : Arg} {s u : State} (h : exec (.tick n) s = .next u) :
    (s.enabled = true ∧ u = s.setCount (saturatingTicks s.count n.toNat)) ∨
      (s.enabled = false ∧ u = s) := by
  simp only [exec, execTick] at h
  split at h
  · next he => cases h; exact .inl ⟨he, rfl⟩
  · next he => cases h; exact .inr ⟨by simpa using he, rfl⟩

/-- `NOTIFY` leaves the model's own fields. -/
theorem notifyState_modelFields (t : Tick) (s : State) :
    (notifyState t s).trace = s.trace ∧ (notifyState t s).lastRead = s.lastRead ∧
      (notifyState t s).freeDraws = s.freeDraws := by
  unfold notifyState
  rcases phaseState_cases t (s.setCount t) with h | h | ⟨-, h | h | h | h | h⟩ <;>
    simp only [h, edgeFirstState, edgeFallState, riseMissState, riseSyncState, riseDesyncState,
      riseBitState, riseDoneState] <;> exact ⟨rfl, rfl, rfl⟩

/-- No operation touches the events to come. -/
theorem exec_trace {i : Instr} {s u : State} (h : exec i s = .next u) : u.trace = s.trace := by
  cases hi : i.agent with
  | core =>
    obtain ⟨-, t, rfl⟩ := exec_core_next hi h
    exact (notifyState_modelFields t s).1
  | app => cases i <;> simp [Instr.agent] at hi <;> cases h <;> rfl
  | env =>
    cases i <;> simp [Instr.agent] at hi
    · rcases exec_tick_next h with ⟨-, rfl⟩ | ⟨-, rfl⟩ <;> rfl
    · rcases exec_line_next h with rfl | ⟨-, -, rfl⟩
      · rfl
      · exact (notifyState_modelFields _ _).1
    · cases h; rfl

end Sys2Proof.Machine
end

