-- ==== Sys2Proof/Laws/Decode.lean ====
section
/-! SUPPORT. The fields of an event word built from its fields, what the decoder does for each `op` value,
and the codes of the polarity. -/

namespace Sys2Proof

@[simp] theorem eventWord_op (op : BitVec 4) (a : Arg) : (eventWord op a).op = op := by
  apply BitVec.eq_of_getLsbD_eq
  intro i hi
  simp only [EventWord.op, eventWord, BitVec.getLsbD_extractLsb', BitVec.getLsbD_append]
  have h : ¬28 + i < 24 := by omega
  have h' : ¬28 + i - 24 < 4 := by omega
  have h'' : 28 + i - 24 - 4 = i := by omega
  simp [hi, h, h', h'']

@[simp] theorem eventWord_zero (op : BitVec 4) (a : Arg) : (eventWord op a).zero = 0#4 := by
  apply BitVec.eq_of_getLsbD_eq
  intro i hi
  simp only [EventWord.zero, eventWord, BitVec.getLsbD_extractLsb', BitVec.getLsbD_append]
  rw [if_neg (by omega), if_pos (by omega)]
  simp

@[simp] theorem eventWord_arg (op : BitVec 4) (a : Arg) : (eventWord op a).arg = a := by
  apply BitVec.eq_of_getLsbD_eq
  intro i hi
  simp only [EventWord.arg, eventWord, BitVec.getLsbD_extractLsb', BitVec.getLsbD_append]
  rw [if_pos (by omega)]
  simp [hi]

/-- An event word whose `zero` field is 0 is built from its `op` and `arg`. -/
theorem eventWord_fields (w : EventWord) (h : w.zero = 0#4) : eventWord w.op w.arg = w := by
  apply BitVec.eq_of_getLsbD_eq
  intro i hi
  have hz : ∀ j, j < 4 → w.getLsbD (24 + j) = false := by
    intro j hj
    have := congrArg (fun v : BitVec 4 => v.getLsbD j) h
    simpa [EventWord.zero, hj] using this
  simp only [eventWord, EventWord.op, EventWord.arg, BitVec.getLsbD_append,
    BitVec.getLsbD_extractLsb']
  by_cases h1 : i < 24
  · simp [h1]
  · by_cases h2 : i - 24 < 4
    · have := hz (i - 24) h2
      rw [show 24 + (i - 24) = i by omega] at this
      simp [h1, h2, this]
    · have h3 : i - 24 - 4 < 4 := by omega
      have h4 : 28 + (i - 24 - 4) = i := by omega
      simp [h1, h2, h3, h4]

@[simp] theorem decode_eventWord (op : BitVec 4) (a : Arg) :
    decode (eventWord op a) = decodeOp op.toNat a := by
  simp [decode]

/-- A decoded word has `zero = 0` and is what `decodeOp` reads. -/
theorem decode_ok {w : EventWord} {i : Instr} (h : decode w = .ok i) :
    w.zero = 0#4 ∧ decodeOp w.op.toNat w.arg = .ok i := by
  unfold decode at h
  split at h
  · exact ⟨‹_›, h⟩
  · cases h

theorem decodeNotify_ok {a : Arg} {i : Instr} (h : decodeNotify a = .ok i) :
    a.LegalReading ∧ i = .notify a := by
  unfold decodeNotify at h
  split at h
  · cases h; exact ⟨‹_›, rfl⟩
  · cases h

theorem decodeNoArg_ok {a : Arg} {i j : Instr} (h : decodeNoArg a j = .ok i) :
    a = 0#24 ∧ i = j := by
  unfold decodeNoArg at h
  split at h
  · cases h; exact ⟨‹_›, rfl⟩
  · cases h

@[simp] theorem decodeNotify_legal {a : Arg} (h : a.LegalReading) :
    decodeNotify a = .ok (.notify a) := by
  simp only [decodeNotify, if_pos h]

@[simp] theorem decodeNoArg_zero (i : Instr) : decodeNoArg 0#24 i = .ok i := by
  simp [decodeNoArg]

@[simp] theorem decodeLine_arg (p : Polarity) : decodeLine p.arg = .ok (.line p) := by
  cases p <;> rfl

end Sys2Proof
end

