-- ==== Sys2Proof/Laws/PerInstr.lean ====
section
/-! SUPPORT. Per-instruction families: the event word of every operation belongs to its row of
spec/opcode_table.json. -/

namespace Sys2Proof.Laws

/-- The encoded word of a well-formed operation has, under its row's mask, its row's pattern. -/
def FitsTableRow.Statement (i : Instr) : Prop :=
  i.WellFormed → encode i &&& i.row.mask = i.row.pattern

/-- A mask that leaves the operand free sees only `op` and `zero`. -/
theorem mask_high_byte (op : BitVec 4) (a : Arg) :
    eventWord op a &&& 0xFF000000#32 = eventWord op 0#24 := by
  apply BitVec.eq_of_getLsbD_eq
  intro i hi
  have hm : ∀ j < 32, (0xFF000000#32).getLsbD j = decide (24 ≤ j) := by decide
  rw [BitVec.getLsbD_and, hm i hi]
  simp only [eventWord, BitVec.getLsbD_append]
  by_cases h : i < 24
  · simp [h]
  · simp [h, show 24 ≤ i by omega]

theorem fitsTableRow_of_opcode (op : BitVec 4) (a : Arg) (p : EventWord)
    (h : eventWord op 0#24 = p) : eventWord op a &&& 0xFF000000#32 = p := by
  rw [mask_high_byte, h]

theorem FitsTableRow.notify (t : Arg) : FitsTableRow.Statement (.notify t) :=
  fun _ => fitsTableRow_of_opcode 0x1#4 t 0x10000000#32 (by decide)

theorem FitsTableRow.edgeFirst (t : Arg) : FitsTableRow.Statement (.edgeFirst t) :=
  fun _ => fitsTableRow_of_opcode 0x1#4 t 0x10000000#32 (by decide)

theorem FitsTableRow.edgeFall (t : Arg) : FitsTableRow.Statement (.edgeFall t) :=
  fun _ => fitsTableRow_of_opcode 0x1#4 t 0x10000000#32 (by decide)

theorem FitsTableRow.riseMiss (t : Arg) : FitsTableRow.Statement (.riseMiss t) :=
  fun _ => fitsTableRow_of_opcode 0x1#4 t 0x10000000#32 (by decide)

theorem FitsTableRow.riseSync (t : Arg) : FitsTableRow.Statement (.riseSync t) :=
  fun _ => fitsTableRow_of_opcode 0x1#4 t 0x10000000#32 (by decide)

theorem FitsTableRow.riseDesync (t : Arg) : FitsTableRow.Statement (.riseDesync t) :=
  fun _ => fitsTableRow_of_opcode 0x1#4 t 0x10000000#32 (by decide)

theorem FitsTableRow.riseBit (t : Arg) : FitsTableRow.Statement (.riseBit t) :=
  fun _ => fitsTableRow_of_opcode 0x1#4 t 0x10000000#32 (by decide)

theorem FitsTableRow.riseDone (t : Arg) : FitsTableRow.Statement (.riseDone t) :=
  fun _ => fitsTableRow_of_opcode 0x1#4 t 0x10000000#32 (by decide)

theorem FitsTableRow.tick (n : Arg) : FitsTableRow.Statement (.tick n) :=
  fun _ => fitsTableRow_of_opcode 0x2#4 n 0x20000000#32 (by decide)

theorem FitsTableRow.line (p : Polarity) : FitsTableRow.Statement (.line p) := by
  intro _
  cases p <;> decide

theorem FitsTableRow.clrdet : FitsTableRow.Statement .clrdet := fun _ => by decide

theorem FitsTableRow.rearm : FitsTableRow.Statement .rearm := fun _ => by decide

theorem FitsTableRow.disable : FitsTableRow.Statement .disable := fun _ => by decide

theorem FitsTableRow.rdframe : FitsTableRow.Statement .rdframe := fun _ => by decide

theorem FitsTableRow.rdaddr : FitsTableRow.Statement .rdaddr := fun _ => by decide

theorem FitsTableRow.rdkey : FitsTableRow.Statement .rdkey := fun _ => by decide

theorem FitsTableRow.rddet : FitsTableRow.Statement .rddet := fun _ => by decide

theorem FitsTableRow.reset : FitsTableRow.Statement .reset := fun _ => by decide

end Sys2Proof.Laws
end

