-- ==== Sys2Proof/Machine/Summary.lean ====
section
/-! DEFINITION. The core-level summary machine (spec/43_completion_and_application_ops.md R97, R98): predicates over
the state and the table of transitions. It is no state of its own (spec/10_state.md R25). -/

namespace Sys2Proof.Machine

/-- The four core-level states (R97). -/
inductive CoreLevel where
  | unsynced
  | syncing
  | receiving
  | complete
deriving DecidableEq, Repr

/-- The predicate of a core-level state (R97, spec/90_conflicts.md C6). -/
def State.atLevel (s : State) : CoreLevel → Bool
  | .unsynced => s.enabled && s.phase == .awaitingFirstEdge
  | .syncing => s.enabled && s.phase != .awaitingFirstEdge && !s.preambleFound
  | .receiving => s.enabled && s.preambleFound
  | .complete => !s.enabled

/-- The rows of R98's table for the sub-operations of `NOTIFY`: where each can occur, and where it
leads. -/
def SubOp.move : SubOp → CoreLevel → Option CoreLevel
  | .edgeFirst, .unsynced => some .syncing
  | .edgeFall, .syncing => some .syncing
  | .riseMiss, .syncing => some .syncing
  | .riseSync, .syncing => some .receiving
  | .edgeFall, .receiving => some .receiving
  | .riseBit, .receiving => some .receiving
  | .riseDesync, .receiving => some .syncing
  | .riseDone, .receiving => some .complete
  | _, _ => none

/-- Some sub-operation leads from one level to the other. -/
def notifyMove (x y : CoreLevel) : Bool :=
  [SubOp.edgeFirst, .edgeFall, .riseMiss, .riseSync, .riseDesync, .riseBit, .riseDone].any
    fun o => SubOp.move o x == some y

/-- R98's table, for every operation: may it lead from level `x` to level `y`? -/
def levelMove (i : Instr) (x y : CoreLevel) : Bool :=
  match i with
  | .notify _ => notifyMove x y
  | .edgeFirst _ => SubOp.move .edgeFirst x == some y
  | .edgeFall _ => SubOp.move .edgeFall x == some y
  | .riseMiss _ => SubOp.move .riseMiss x == some y
  | .riseSync _ => SubOp.move .riseSync x == some y
  | .riseDesync _ => SubOp.move .riseDesync x == some y
  | .riseBit _ => SubOp.move .riseBit x == some y
  | .riseDone _ => SubOp.move .riseDone x == some y
  | .line _ => y == x || notifyMove x y
  | .rearm => y == .unsynced
  | .disable => y == .complete
  | .reset => y == .complete
  | .clrdet => y == x
  | .rdframe => y == x
  | .rdaddr => y == x
  | .rdkey => y == x
  | .rddet => y == x
  | .tick _ => y == x

end Sys2Proof.Machine
end

