-- ==== Sys2Proof/Safety.lean ====
section
/-! DEFINITION. What counts as a legal state and a safe run, in the terms the statements use: the invariants of
spec/10_state.md R26, the reset values of R28, and views of the state by who owns it (R13, R27). -/

namespace Sys2Proof.Machine

/-- The invariants I1 to I9 of every reachable state (R26). I1 and I9 hold by the types of `phase`,
`address` and `key`. -/
structure State.Inv (s : State) : Prop where
  /-- I2. -/
  bitIndex_le : s.bitIndex.toNat ≤ 23
  /-- I3. -/
  searching : s.preambleFound = false → s.bitIndex = 0#5 ∧ s.accumulator = 0#24
  /-- I4: positions not yet received are 0. -/
  unreceived : s.accumulator.toNat % 2 ^ (24 - s.bitIndex.toNat) = 0
  /-- I5. -/
  receiving : s.preambleFound = true → s.enabled = true ∧ s.phase ≠ .awaitingFirstEdge
  /-- I6. -/
  disabled : s.enabled = false → s.phase = .awaitingFirstEdge ∧ s.preambleFound = false ∧
    s.bitIndex = 0#5 ∧ s.accumulator = 0#24 ∧ s.hiLatch = 0#tickW
  /-- I7. -/
  first : s.phase = .awaitingFirstEdge → s.preambleFound = false ∧ s.hiLatch = 0#tickW
  /-- I8, first edge. -/
  armedFirst : s.enabled = true → s.phase = .awaitingFirstEdge → s.armedPolarity = .rising
  /-- I8, falling edge. -/
  armedFalling : s.phase = .awaitingFallingEdge → s.armedPolarity = .falling
  /-- I8, rising edge. -/
  armedRising : s.phase = .awaitingRisingEdge → s.armedPolarity = .rising

/-- Every register has its value after `RESET` (R28), `address` and `key` any value. -/
structure State.AfterReset (s : State) : Prop where
  phase : s.phase = .awaitingFirstEdge
  preambleFound : s.preambleFound = false
  bitIndex : s.bitIndex = 0#5
  accumulator : s.accumulator = 0#24
  hiLatch : s.hiLatch = 0#tickW
  detected : s.detected = false
  enabled : s.enabled = false
  armedPolarity : s.armedPolarity = .rising
  count : s.count = 0#tickW

/-- DecoderState (R13 (a)) agrees. -/
structure SameDecoder (s u : State) : Prop where
  phase : u.phase = s.phase
  preambleFound : u.preambleFound = s.preambleFound
  bitIndex : u.bitIndex = s.bitIndex
  accumulator : u.accumulator = s.accumulator
  hiLatch : u.hiLatch = s.hiLatch

/-- DecodedFrame (R13 (b)) agrees. -/
structure SameFrame (s u : State) : Prop where
  address : u.address = s.address
  key : u.key = s.key
  detected : u.detected = s.detected

/-- Collaborator state (R13 (c)) agrees. -/
structure SameCollaborators (s u : State) : Prop where
  enabled : u.enabled = s.enabled
  armedPolarity : u.armedPolarity = s.armedPolarity
  count : u.count = s.count

/-- Every register of the hardware agrees; the model's own fields may differ. -/
structure SameHardware (s u : State) : Prop where
  decoder : SameDecoder s u
  frame : SameFrame s u
  collaborators : SameCollaborators s u

/-- The model's own fields agree: the rest of the trace, the last read, the free draws. -/
structure SameModelFields (s u : State) : Prop where
  trace : u.trace = s.trace
  lastRead : u.lastRead = s.lastRead
  freeDraws : u.freeDraws = s.freeDraws

/-- `NOTIFY` of the given readings, one after another. -/
def notifyAll (ts : List Tick) (s : State) : Result :=
  execAll (ts.map fun t => .notify (t.setWidth 24)) s

/-- The two readings of each sample, HIGH at the falling edge and LOW at the rising edge (R70). -/
def readings (ps : List PulseSample) : List Tick := ps.flatMap fun p => [p.highTicks, p.lowTicks]

/-- The value of received bits, the first the most significant (R92, R94). -/
def bitsValue (bs : List Bool) : Nat := bs.foldl (fun v b => 2 * v + b.toNat) 0

/-- An operation, performed `n` times, each time on the state the time before left. -/
def execTimes : Nat → Instr → State → Result
  | n, i, s => execAll (List.replicate n i) s

/-- The registers, ignoring the polarity the Edge Notifier is armed for. -/
def State.forgetPolarity (s : State) : State := { s with armedPolarity := .rising }

/-- The registers, with the decoded frame replaced. -/
def State.withFrame (a : Address) (k : Key) (d : Bool) (s : State) : State :=
  { s with address := a, key := k, detected := d }

end Sys2Proof.Machine
end

