-- ==== Sys2Proof/Certificates/Slice0/Obligations.lean ====
section
/-! DEFINITION. The statements about the machine, from the numbered rules of spec/. -/

open Sys2Proof Sys2Proof.Machine

/-! The sub-operations of `NOTIFY`: what each writes, and that it writes nothing else -/

/-- R66: `EDGE.FIRST` discards the reading and any stale measurement, and starts timing a HIGH. -/
def Obligations.EdgeFirstEffect : Prop :=
  ∀ (t : Arg) (s : State), t.LegalReading → s.enabled = true → s.phase = .awaitingFirstEdge →
    ∃ u, u = { s with
        hiLatch := 0#tickW
        count := 0#tickW
        phase := .awaitingFallingEdge
        armedPolarity := .falling } ∧
      exec (.edgeFirst t) s = .next u ∧ exec (.notify t) s = .next u

/-- R67: `EDGE.FALL` keeps the reading as `highTicks` and starts timing the LOW. -/
def Obligations.EdgeFallEffect : Prop :=
  ∀ (t : Arg) (s : State), t.LegalReading → s.enabled = true → s.phase = .awaitingFallingEdge →
    ∃ u, u = { s with
        hiLatch := t.setWidth tickW
        count := 0#tickW
        phase := .awaitingRisingEdge
        armedPolarity := .rising } ∧
      exec (.edgeFall t) s = .next u ∧ exec (.notify t) s = .next u

/-- R82: `RISE.MISS` leaves the classification state, and times the next HIGH. -/
def Obligations.RiseMissEffect : Prop :=
  ∀ (t : Arg) (s : State), t.LegalReading → s.enabled = true → s.phase = .awaitingRisingEdge →
    s.preambleFound = false → isPreamble Config.built t.toNat s.hiLatch.toNat = false →
    ∃ u, u = { s with
        count := 0#tickW
        phase := .awaitingFallingEdge
        armedPolarity := .falling } ∧
      exec (.riseMiss t) s = .next u ∧ exec (.notify t) s = .next u

/-- R83: `RISE.SYNC` starts a frame with no bit in it. -/
def Obligations.RiseSyncEffect : Prop :=
  ∀ (t : Arg) (s : State), t.LegalReading → s.enabled = true → s.phase = .awaitingRisingEdge →
    s.preambleFound = false → isPreamble Config.built t.toNat s.hiLatch.toNat = true →
    ∃ u, u = { s with
        preambleFound := true
        bitIndex := 0#5
        accumulator := 0#24
        count := 0#tickW
        phase := .awaitingFallingEdge
        armedPolarity := .falling } ∧
      exec (.riseSync t) s = .next u ∧ exec (.notify t) s = .next u

/-- R84: `RISE.DESYNC`, the soft reset, whatever `bitIndex` is. -/
def Obligations.RiseDesyncEffect : Prop :=
  ∀ (t : Arg) (s : State), t.LegalReading → s.enabled = true → s.phase = .awaitingRisingEdge →
    s.preambleFound = true → validRange Config.built t.toNat s.hiLatch.toNat = false →
    ∃ u, u = { s with
        preambleFound := false
        bitIndex := 0#5
        accumulator := 0#24
        hiLatch := 0#tickW
        count := 0#tickW
        phase := .awaitingRisingEdge
        armedPolarity := .rising } ∧
      exec (.riseDesync t) s = .next u ∧ exec (.notify t) s = .next u

/-- R85: `RISE.BIT b` inserts one bit that is not the 24th. -/
def Obligations.RiseBitEffect : Prop :=
  ∀ (t : Arg) (s : State), t.LegalReading → s.enabled = true → s.phase = .awaitingRisingEdge →
    s.preambleFound = true → validRange Config.built t.toNat s.hiLatch.toNat = true →
    s.bitIndex.toNat ≤ 22 →
    ∃ u, u = { s with
        accumulator :=
          insertBit s.accumulator s.bitIndex.toNat (decodeBit t.toNat s.hiLatch.toNat)
        bitIndex := s.bitIndex + 1#5
        count := 0#tickW
        phase := .awaitingFallingEdge
        armedPolarity := .falling } ∧
      u.bitIndex.toNat = s.bitIndex.toNat + 1 ∧
      exec (.riseBit t) s = .next u ∧ exec (.notify t) s = .next u

/-- R93: `RISE.DONE b` publishes the frame, resets the decoder and disables the block; `count` keeps
the reading. -/
def Obligations.RiseDoneEffect : Prop :=
  ∀ (t : Arg) (s : State), t.LegalReading → s.enabled = true → s.phase = .awaitingRisingEdge →
    s.preambleFound = true → validRange Config.built t.toNat s.hiLatch.toNat = true →
    s.bitIndex.toNat = 23 →
    ∃ final u, final = insertBit s.accumulator 23 (decodeBit t.toNat s.hiLatch.toNat) ∧
      u = { s with
        address := final.extractLsb' 4 20
        key := final.extractLsb' 0 4
        detected := true
        preambleFound := false
        phase := .awaitingFirstEdge
        bitIndex := 0#5
        accumulator := 0#24
        hiLatch := 0#tickW
        enabled := false
        count := t.setWidth tickW } ∧
      exec (.riseDone t) s = .next u ∧ exec (.notify t) s = .next u

/-- R56: the seven conditions are mutually exclusive in every state, and where `bitIndex` meets I2 one
of them holds; `NOTIFY` then completes, as the sub-operation selected does. -/
def Obligations.NotifyRunsItsOneSubOperation : Prop :=
  (∀ (o o' : SubOp) (t : Tick) (s : State),
    SubOp.selected o t s = true → SubOp.selected o' t s = true → o = o') ∧
  ∀ (t : Arg) (s : State), t.LegalReading → s.enabled = true → s.bitIndex.toNat ≤ 23 →
    ∃ o u, SubOp.selected o (t.setWidth tickW) s = true ∧
      exec (.notify t) s = .next u ∧ exec (o.instr t) s = .next u

/-- R65: every reading a word can carry is accepted while `enabled = 1`, in every state; no
sub-operation touches the application's last read or the rest of the trace. -/
def Obligations.NotifyAcceptsEveryReading : Prop :=
  ∀ (t : Arg) (s : State), t.LegalReading → s.enabled = true →
    ∃ u, exec (.notify t) s = .next u ∧ SameModelFields s u ∧
      (u.count = 0#tickW ∨ u.count = t.setWidth tickW)

/-- R58, R65: while `enabled = 0` no `NOTIFY` row has a step, whatever its legal reading. -/
def Obligations.NotifyRefusedWhileDisabled : Prop :=
  ∀ (t : Arg) (s : State), t.LegalReading → s.enabled = false →
    exec (.notify t) s = .refused .notifyWhileDisabled ∧
      ∀ o : SubOp, exec (o.instr t) s = .refused .notifyWhileDisabled

/-! The collaborators -/

/-- R115: `TICK n`, its words, and that it counts exactly while `enabled = 1`, and holds at the top. -/
def Obligations.TickEffect : Prop :=
  (∀ n : Arg, decode (eventWord 0x2#4 n) = .ok (.tick n)) ∧
  ∀ (n : Arg) (s : State),
    (s.enabled = true → exec (.tick n) s = .next { s with
      count := BitVec.ofNat tickW (min (s.count.toNat + n.toNat) (2 ^ tickW - 1)) }) ∧
    (s.enabled = false → exec (.tick n) s = .next s)

/-- R115: "`TICK n` equals `n` times `TICK 1`". -/
def Obligations.TickEqualsRepeatedUnitTicks : Prop :=
  ∀ (n : Arg) (s : State), execTimes n.toNat (.tick 1#24) s = exec (.tick n) s

/-- R111, R115: `TICK n` never lowers the count, and raises it by exactly `n` where that fits. -/
def Obligations.TickSourceIsMonotonic : Prop :=
  ∀ (n : Arg) (s u : State), exec (.tick n) s = .next u →
    s.count.toNat ≤ u.count.toNat ∧
      (s.enabled = true → s.count.toNat + n.toNat < 2 ^ tickW →
        u.count.toNat = s.count.toNat + n.toNat)

/-- R116: `LINE p`, its words, and that it delivers `NOTIFY count` when enabled and armed for `p`, and
otherwise leaves no trace. -/
def Obligations.LineEffect : Prop :=
  decode 0x30000001#32 = .ok (.line .rising) ∧ decode 0x30000000#32 = .ok (.line .falling) ∧
  ∀ (p : Polarity) (s : State),
    (s.enabled = true → s.armedPolarity = p →
      ∃ u, exec (.line p) s = .next u ∧ exec (.notify (s.count.setWidth 24)) s = .next u) ∧
    (s.enabled = true → s.armedPolarity ≠ p → exec (.line p) s = .next s) ∧
    (s.enabled = false → exec (.line p) s = .next s)

/-! The application's port and reset -/

/-- R102: `CLRDET`, its word, and that it clears the flag and nothing else. -/
def Obligations.ClrdetEffect : Prop :=
  decode 0x40000000#32 = .ok .clrdet ∧
  ∀ s : State, exec .clrdet s = .next { s with detected := false }

/-- R100: `REARM`, its word, and its effect in every state. -/
def Obligations.RearmEffect : Prop :=
  decode 0x50000000#32 = .ok .rearm ∧
  ∀ s : State, exec .rearm s = .next { s with
    phase := .awaitingFirstEdge
    preambleFound := false
    bitIndex := 0#5
    accumulator := 0#24
    hiLatch := 0#tickW
    armedPolarity := .rising
    enabled := true }

/-- R101: `DISABLE`, its word, and its effect in every state: the partial frame is gone, DecodedFrame
is not. -/
def Obligations.DisableEffect : Prop :=
  decode 0x60000000#32 = .ok .disable ∧
  ∀ s : State, exec .disable s = .next { s with
    enabled := false
    phase := .awaitingFirstEdge
    preambleFound := false
    bitIndex := 0#5
    accumulator := 0#24
    hiLatch := 0#tickW }

/-- R103: `RDFRAME`, its word, and that it returns the 25-bit snapshot and changes no register. The value
returned stands in the model's field `lastRead` (notes/assumptions/6.md). -/
def Obligations.RdframeEffect : Prop :=
  decode 0x70000000#32 = .ok .rdframe ∧
  ∀ s : State, ∃ v : Frame25,
    exec .rdframe s = .next { s with lastRead := some (.frame v) } ∧
      v.getLsbD 24 = s.detected ∧ v.extractLsb' 4 20 = s.address ∧ v.extractLsb' 0 4 = s.key

/-- R104: `RDADDR`, its word, and that it returns the 20 bits of `address`, in the model's field
`lastRead` (notes/assumptions/6.md). -/
def Obligations.RdaddrEffect : Prop :=
  decode 0x80000000#32 = .ok .rdaddr ∧
  ∀ s : State, exec .rdaddr s = .next { s with lastRead := some (.address s.address) }

/-- R105: `RDKEY`, its word, and that it returns the 4 bits of `key`, in the model's field `lastRead`
(notes/assumptions/6.md). -/
def Obligations.RdkeyEffect : Prop :=
  decode 0x90000000#32 = .ok .rdkey ∧
  ∀ s : State, exec .rdkey s = .next { s with lastRead := some (.key s.key) }

/-- R106: `RDDET`, its word, and that it returns `detected`, which is not cleared by being read. The value
returned stands in the model's field `lastRead` (notes/assumptions/6.md). -/
def Obligations.RddetEffect : Prop :=
  decode 0xA0000000#32 = .ok .rddet ∧
  ∀ s : State, exec .rddet s = .next { s with
    lastRead := some (.detected (if s.detected then 1#1 else 0#1)) }

/-- From the pseudo-code of R141: `RESET`, its word, and that it gives every register its reset value;
nothing is said of what `address` and `key` become. The counter of draws is the model's choice
(notes/assumptions/3.md). -/
def Obligations.ResetEffect : Prop :=
  decode 0xF0000000#32 = .ok .reset ∧
  ∀ s : State, ∃ (a : Address) (k : Key), exec .reset s = .next { s with
    phase := .awaitingFirstEdge
    preambleFound := false
    bitIndex := 0#5
    accumulator := 0#24
    hiLatch := 0#tickW
    detected := false
    address := a
    key := k
    enabled := false
    armedPolarity := .rising
    count := 0#tickW
    freeDraws := s.freeDraws + 1 }

/-- R28: the machine right after reset; `address` and `key` are any value there. -/
def Obligations.ResetStateValues : Prop := State.reset.AfterReset

/-- R62, R103, R141: after a `RESET` the snapshot's flag is 0 and its other 24 bits are asserted by
nothing, whatever values the registers hold. -/
def Obligations.SnapshotAfterResetIsUnmarked : Prop :=
  ∀ s : State, ∃ u v : State, exec .reset s = .next u ∧ exec .rdframe u = .next v ∧
    ∃ r, v.lastRead = some r ∧ (ReadAssertion.mk 0 0xFFFFFF).holds r = true

/-- R40: an application operation done twice in a row is a no-op the second time. -/
def Obligations.ApplicationOperationsAreIdempotent : Prop :=
  ∀ (i : Instr) (s u : State), i.agent = .app → exec i s = .next u → exec i u = .next u

/-! The encoding and the step -/

/-- R50 to R53: decoding the event word of a well-formed operation gives it back (a sub-operation row
has the word of its `NOTIFY`). -/
def Obligations.DecodeInvertsEncode : Prop :=
  ∀ i : Instr, i.WellFormed → decode (encode i) = .ok i.event

/-- R59: every word that decodes is the one word of a well-formed operation. -/
def Obligations.EncodeInvertsDecode : Prop :=
  ∀ (w : EventWord) (i : Instr), decode w = .ok i → i.WellFormed ∧ i.event = i ∧ encode i = w

/-- R57: exactly these words are refused. -/
def Obligations.IllegalWordsAreExactlyThese : Prop :=
  ∀ (w : EventWord) (op z arg : Nat), op = w.toNat / 2 ^ 28 → z = w.toNat / 2 ^ 24 % 2 ^ 4 →
    arg = w.toNat % 2 ^ 24 →
    ((∃ why, decode w = .error why) ↔
      op = 0x0 ∨ (0xB ≤ op ∧ op ≤ 0xE) ∨ z ≠ 0 ∨
      (arg ≠ 0 ∧ (0x4 ≤ op ∧ op ≤ 0xA ∨ op = 0xF)) ∨
      (op = 0x3 ∧ arg / 2 ≠ 0) ∨ (op = 0x1 ∧ 2 ^ tickW ≤ arg))

/-- The event word of every well-formed operation lies in its row of the opcode table. -/
def Obligations.EncodedWordFitsItsTableRow : Prop :=
  ∀ i : Instr, Sys2Proof.Laws.FitsTableRow.Statement i

/-- R60: the example words of the trace syntax decode to the operations beside them. -/
def Obligations.ExampleWordsDecode : Prop :=
  decode 0x10000280#32 = .ok (.notify 640#24) ∧ decode 0x10004E20#32 = .ok (.notify 20000#24) ∧
  decode 0x20000280#32 = .ok (.tick 640#24) ∧ decode 0x30000001#32 = .ok (.line .rising) ∧
  decode 0x30000000#32 = .ok (.line .falling) ∧ decode 0x40000000#32 = .ok .clrdet ∧
  decode 0x50000000#32 = .ok .rearm ∧ decode 0x60000000#32 = .ok .disable ∧
  decode 0x70000000#32 = .ok .rdframe ∧ decode 0x80000000#32 = .ok .rdaddr ∧
  decode 0x90000000#32 = .ok .rdkey ∧ decode 0xA0000000#32 = .ok .rddet ∧
  decode 0xF0000000#32 = .ok .reset

/-- R50: a step performs the next event word of the trace, decoded, on the machine with the rest of
the trace. -/
def Obligations.StepRunsDecodedOperation : Prop :=
  ∀ (w : EventWord) (ws : List EventWord) (i : Instr) (s : State), s.trace = w :: ws →
    decode w = .ok i → step s = exec i { s with trace := ws }

/-- R58: an illegal word is refused, in every state. -/
def Obligations.StepRefusesIllegalWord : Prop :=
  ∀ (w : EventWord) (ws : List EventWord) (why : IllegalWord) (s : State), s.trace = w :: ws →
    decode w = .error why → step s = .refused (.illegalWord why)

/-- With no event to perform the block waits (the model's choice, notes/assumptions/5.md, from R126
and R142). -/
def Obligations.StepWaitsWithoutEvent : Prop :=
  ∀ s : State, s.trace = [] → step s = .next s

/-- Every step that has a next state takes exactly one word off the trace (the model's field,
notes/assumptions/4.md): no operation reads or writes the events to come. -/
def Obligations.StepTakesOneEvent : Prop :=
  ∀ s u : State, step s = .next u → u.trace = s.trace.tail

/-- A machine whose next event is the word of a well-formed operation performs that operation (the
model's `withFetchWord`, notes/assumptions/4.md). -/
def Obligations.PlacedWordIsPerformed : Prop :=
  ∀ (i : Instr) (s : State), i.WellFormed →
    step (s.withFetchWord 32 (encode i).toNat) = exec i.event s

/-! The classifier, for every configuration -/

/-- R8: a configuration is accepted exactly when it meets the constraints; the defaults do. -/
def Obligations.ConfigurationsMeetTheConstraints : Prop :=
  (∀ p : Params, (Config.ofParams? p).isSome = true ↔
    (1 ≤ p.tickW ∧ p.tickW ≤ 24) ∧
    (1 ≤ p.preHighMin ∧ p.preHighMin ≤ p.preHighRef ∧ p.preHighRef ≤ p.preHighMax ∧
      p.preHighMax ≤ 2 ^ p.tickW - 1) ∧
    (p.validMin ≤ p.validMax ∧ p.validMax ≤ 2 ^ p.tickW - 1) ∧
    (1 ≤ p.ratioMin ∧ p.ratioMin ≤ p.ratioMax ∧ p.ratioMax ≤ 63)) ∧
  (Config.ofParams? Params.default).isSome = true

/-- R76: both ends of both intervals are included. -/
def Obligations.ValidRangeIsClosed : Prop :=
  ∀ (c : Config) (low high : Nat), validRange c low high = true ↔
    low ∈ Set.Icc c.validMin c.validMax ∧ high ∈ Set.Icc c.validMin c.validMax

/-- R77: `decodeBit` compares `high` with 1.5 times `low` exactly, and the tie is a 1. -/
def Obligations.DecodeBitIsExact : Prop :=
  ∀ low high : Nat, decodeBit low high = true ↔ (3 / 2 : ℚ) * low ≤ high

/-- R78: `isPreamble` takes the quotient exactly over the rationals, in a closed band; a zero `high`
is never a preamble. -/
def Obligations.IsPreambleIsExact : Prop :=
  ∀ (c : Config) (low high : Nat),
    (isPreamble c low high = true ↔
      high ∈ Set.Icc c.preHighMin c.preHighMax ∧
        (low : ℚ) / high ∈ Set.Icc (c.ratioMin : ℚ) (c.ratioMax : ℚ)) ∧
    isPreamble c low 0 = false

/-- R80 (a): where the ratio band lies above the valid range, no preamble is a valid pulse, so one
that arrives in mid-frame is `Invalid`. -/
def Obligations.PreambleInMidFrameIsInvalid : Prop :=
  ∀ (c : Config) (low high : Nat), c.validMax < c.ratioMin * c.preHighMin →
    isPreamble c low high = true → classify c low high true = .invalid

/-- R80 (c): a nominal bit of base period `T` is read right exactly when its durations are valid, and
is `Invalid` otherwise. -/
def Obligations.NominalBitsAreReadRight : Prop :=
  ∀ (c : Config) (T : Nat), 1 ≤ T →
    (c.validMin ≤ T ∧ 3 * T ≤ c.validMax →
      classify c T (3 * T) true = .bit true ∧ classify c (3 * T) T true = .bit false) ∧
    (¬(c.validMin ≤ T ∧ 3 * T ≤ c.validMax) →
      classify c T (3 * T) true = .invalid ∧ classify c (3 * T) T true = .invalid)

/-- R80 (e): in the built instance the smallest HIGH that gives a 1 is 675, and a LOW above 5666 is
never a 1. -/
def Obligations.OneBitBounds : Prop :=
  ∀ low high : Nat, classify Config.built low high true = .bit true → 675 ≤ high ∧ low ≤ 5666

/-! The frame assembler -/

/-- R91: where the target bit is 0, OR, addition and bit replacement agree. -/
def Obligations.InsertBitReadingsAgree : Prop :=
  ∀ (acc : Accumulator) (i : Nat) (b : Bool), i ≤ 23 → acc.getLsbD (23 - i) = false →
    (insertBit acc i b).toNat = acc.toNat + b.toNat * 2 ^ (23 - i) ∧
      ∀ j < 24, (insertBit acc i b).getLsbD j = if j = 23 - i then b else acc.getLsbD j

/-- R94, R55: the fields of a completed frame and the packed form are inverse to one another. -/
def Obligations.FrameFieldsAndPackingAgree : Prop :=
  (∀ final : Accumulator, (frameAddress final).toNat = final.toNat / 16 ∧
    (frameKey final).toNat = final.toNat % 16 ∧
      frame24 (frameAddress final) (frameKey final) = final) ∧
  ∀ (d : Bool) (a : Address) (k : Key),
    (frame24 a k).toNat = a.toNat * 16 + k.toNat ∧
      (frame25 d a k).toNat = d.toNat * 2 ^ 24 + a.toNat * 16 + k.toNat

/-- R109, R152: from `Unsynced`, whatever stale bits the decoder holds, a first edge, a preamble sample
and any 24 valid samples publish exactly their 24 bits, first bit most significant, at the 51st
notification and at none before it. -/
def Obligations.FrameReceptionPublishesItsBits : Prop :=
  ∀ (s : State) (t : Tick) (pre : PulseSample) (ps : List PulseSample),
    s.enabled = true → s.phase = .awaitingFirstEdge → s.preambleFound = false →
    pre.preamble = true → ps.length = 24 → (∀ p ∈ ps, p.valid = true) →
    ∀ ts, ts = t :: readings (pre :: ps) →
      ts.length = 51 ∧
      (∃ u, notifyAll ts s = .next u ∧ u.detected = true ∧ u.enabled = false ∧
        u.address.toNat * 16 + u.key.toNat = bitsValue (ps.map PulseSample.bit)) ∧
      ∀ n < 51, ∃ v, notifyAll (ts.take n) s = .next v ∧ v.enabled = true ∧ SameFrame s v

/-- R61: the expansion of `FRAME v, T`, 24 data bits, most significant first, two notifications each. -/
def Obligations.FrameExpansion : Prop :=
  ∀ (v : Frame24) (T : Nat), 3 * T < 2 ^ tickW →
    (Pseudo.frame v T).expand = some ((List.range 24).flatMap fun k =>
      if v.getLsbD (23 - k) then
        [.notify (BitVec.ofNat 24 (3 * T)), .notify (BitVec.ofNat 24 T)]
      else [.notify (BitVec.ofNat 24 T), .notify (BitVec.ofNat 24 (3 * T))])

/-! Invariants and rules of the whole machine -/

/-- R26: every step keeps the invariants I1 to I9. -/
def Obligations.StepKeepsInvariants : Prop :=
  ∀ s u : State, s.Inv → Sys2Proof.Machine.step s = .next u → u.Inv

/-- R26: the machine right after reset meets the invariants. -/
def Obligations.ResetMeetsInvariants : Prop := State.reset.Inv

/-- R26 I4, R17: positions not yet received are 0, and the position the next bit goes to is one. -/
def Obligations.UnreceivedPositionsAreZero : Prop :=
  ∀ s : State, s.Inv → ∀ k, k + s.bitIndex.toNat ≤ 23 → s.accumulator.getLsbD k = false

/-- R97: the four core-level states partition the states that meet the invariants. -/
def Obligations.CoreLevelsPartition : Prop :=
  ∀ s : State, s.Inv → ∃! l : CoreLevel, s.atLevel l = true

/-- R98: every operation moves between core-level states as the table says, and in no other way. -/
def Obligations.TransitionsFollowTheTable : Prop :=
  ∀ (i : Instr) (s u : State) (x y : CoreLevel), s.Inv → exec i s = .next u →
    s.atLevel x = true → u.atLevel y = true → levelMove i x y = true

/-- R99: while `enabled = 0` a `NOTIFY` has no step, and only `REARM`, `CLRDET` and `RESET` change
the hardware. -/
def Obligations.CompleteIsQuiescent : Prop :=
  ∀ s : State, s.Inv → s.enabled = false →
    (∀ t u, exec (.notify t) s ≠ .next u) ∧
    ∀ i u, exec i s = .next u →
      SameHardware s u ∨ i = .rearm ∨ i = .clrdet ∨ i = .reset

/-- R19, R96: `address` and `key` change at a completion or a `RESET` only; at a completion the flag is
set and the block disabled in the same step. -/
def Obligations.FrameFieldsChangeOnlyAtCompletion : Prop :=
  ∀ (i : Instr) (s u : State), exec i s = .next u →
    (u.address = s.address ∧ u.key = s.key) ∨ i = .reset ∨
      (i.agent ≠ .app ∧ s.preambleFound = true ∧ 23 ≤ s.bitIndex.toNat ∧ u.detected = true ∧
        u.enabled = false)

/-- R20, R22: which operations set and clear `detected` and `enabled`. Beside `DISABLE` and `RESET`,
`enabled` falls at a completion only: a notification, delivered by `LINE` or given directly, with 23
bits received (R93), which leaves `detected` 1. -/
def Obligations.FlagWriters : Prop :=
  ∀ (i : Instr) (s u : State), exec i s = .next u →
    (s.detected = true → u.detected = false → i = .clrdet ∨ i = .reset) ∧
    (s.detected = false → u.detected = true →
      (i.agent = .core ∨ ∃ p, i = .line p) ∧ s.preambleFound = true ∧ 23 ≤ s.bitIndex.toNat ∧
        u.enabled = false) ∧
    (s.enabled = false → u.enabled = true → i = .rearm) ∧
    (s.enabled = true → u.enabled = false → i = .disable ∨ i = .reset ∨
      ((i.agent = .core ∨ ∃ p, i = .line p) ∧ s.preambleFound = true ∧ 23 ≤ s.bitIndex.toNat ∧
        u.detected = true))

/-- R69, R23: the armed polarity is a pure output. Every operation but `LINE` does the same whatever
it is, up to the polarity itself. -/
def Obligations.ArmedPolarityIsOnlyAnOutput : Prop :=
  ∀ (i : Instr) (p : Polarity) (s u : State), (∀ q, i ≠ .line q) → exec i s = .next u →
    ∃ v, exec i { s with armedPolarity := p } = .next v ∧
      v.forgetPolarity = u.forgetPolarity

/-- R27: what the decoder and the collaborators do does not depend on DecodedFrame. -/
def Obligations.DecoderIgnoresDecodedFrame : Prop :=
  ∀ (i : Instr) (a : Address) (k : Key) (d : Bool) (s u : State), exec i s = .next u →
    ∃ v, exec i (s.withFrame a k d) = .next v ∧ SameDecoder u v ∧ SameCollaborators u v

/-- R127, R27: what the application reads depends on DecodedFrame alone. -/
def Obligations.ReadsSeeOnlyDecodedFrame : Prop :=
  ∀ (i : Instr) (s s' u u' : State), i.agent = .app → SameFrame s s' →
    s.lastRead = s'.lastRead → exec i s = .next u → exec i s' = .next u' →
    u.lastRead = u'.lastRead ∧ SameFrame u u'

/-- R84 (a): after a desync the next notification, whatever its reading, leaves the state an
`EDGE.FIRST` at that edge would leave. -/
def Obligations.EdgeAfterDesyncActsAsFirstEdge : Prop :=
  ∀ (t t' : Arg) (s u : State), t.LegalReading → t'.LegalReading →
    exec (.riseDesync t) s = .next u →
    ∃ v, exec (.notify t') u = .next v ∧ exec (.riseMiss t') u = .next v ∧
      exec (.edgeFirst t') { u with phase := .awaitingFirstEdge } = .next v
end

