-- ==== Sys2Proof/Tests/Slice0.lean ====
section
/-! SUPPORT. The model's own tests: ill-formed terms refused, words of the spec decoded, one-step vectors of
spec/95_test_vectors.md (named V-…), lines of the trace syntax, and for each statement with hypotheses
the operands and states that meet them. Expected values are the spec's. -/

namespace Sys2Proof.Tests

open Sys2Proof.Machine

/-! Helpers -/

/-- What a next state shows, if there is one. -/
def after {α : Type} (r : Result) (view : State → α) : Option α :=
  match r with
  | .next u => some (view u)
  | .fault _ => none
  | .refused _ => none

/-- Why an operation is refused, if it is. -/
def refusal (r : Result) : Option Refusal :=
  match r with
  | .next _ => none
  | .fault _ => none
  | .refused why => some why

/-- Why a word is illegal, if it is. -/
def illegal (w : EventWord) : Option IllegalWord :=
  match decode w with
  | .ok _ => none
  | .error why => some why

/-- Enabled, in a phase, with the polarity that phase expects. -/
def inPhase (p : Phase) (hi : Tick) : State :=
  { State.reset with
    enabled := true
    phase := p
    armedPolarity := if p = .awaitingFallingEdge then .falling else .rising
    hiLatch := hi }

/-- At a rising edge, the preamble found and `i` bits received. -/
def receivingAt (i : BitIndex) (acc : Accumulator) (hi : Tick) : State :=
  { inPhase .awaitingRisingEdge hi with preambleFound := true, bitIndex := i, accumulator := acc }

/-- After a completion: the state V-DONE-1 leaves. -/
def completed : State :=
  { State.reset with address := 0x12345#20, key := 0x3#4, detected := true, count := 640#16 }

/-! WellFormed: a reading of `2^TICK_W` is refused in every `NOTIFY` row (R52, R57), and a configuration
that breaks a clause of R8 is refused -/

theorem test_notify_ill_formed : ¬(Instr.notify 65536#24).WellFormed := by decide
theorem test_edgeFirst_ill_formed : ¬(Instr.edgeFirst 65536#24).WellFormed := by decide
theorem test_edgeFall_ill_formed : ¬(Instr.edgeFall 65536#24).WellFormed := by decide
theorem test_riseMiss_ill_formed : ¬(Instr.riseMiss 65536#24).WellFormed := by decide
theorem test_riseSync_ill_formed : ¬(Instr.riseSync 65536#24).WellFormed := by decide
theorem test_riseDesync_ill_formed : ¬(Instr.riseDesync 65536#24).WellFormed := by decide
theorem test_riseBit_ill_formed : ¬(Instr.riseBit 65536#24).WellFormed := by decide
theorem test_riseDone_ill_formed : ¬(Instr.riseDone 65536#24).WellFormed := by decide
theorem test_largest_reading_well_formed : (Instr.notify 65535#24).WellFormed := by decide
theorem test_ill_formed_reading_refused :
    refusal (exec (.notify 65536#24) (inPhase .awaitingFirstEdge 0)) = some .illegalReading := by
  decide

theorem test_config_tick_width_refused :
    (Config.ofParams? { Params.default with tickW := 25 }).isNone = true := by decide
theorem test_config_preamble_band_refused :
    (Config.ofParams? { Params.default with preHighMin := 0 }).isNone = true := by decide
theorem test_config_valid_bounds_refused :
    (Config.ofParams? { Params.default with validMax := 65536 }).isNone = true := by decide
theorem test_config_ratio_refused :
    (Config.ofParams? { Params.default with ratioMax := 64 }).isNone = true := by decide
theorem test_config_default_accepted : (Config.ofParams? Params.default).isSome = true := by decide

/-! Decoding: words written out from R50 to R54 (`op`, `zero`, `arg`) and from R60's table. The seven
sub-operation rows have the word of `NOTIFY` (R56); their own steps are below. -/

theorem test_decode_notify :
    decodeTableWord 32 0b0001_0000_000000000000001010000000 = some (.notify 640#24) := by decide
theorem test_decode_notify_largest : decodeTableWord 32 0x1000FFFF = some (.notify 65535#24) := by
  decide
theorem test_decode_tick :
    decodeTableWord 32 0b0010_0000_000000000000001010000000 = some (.tick 640#24) := by decide
theorem test_decode_tick_largest : decodeTableWord 32 0x20FFFFFF = some (.tick 16777215#24) := by
  decide
theorem test_decode_line_rising :
    decodeTableWord 32 0b0011_0000_000000000000000000000001 = some (.line .rising) := by decide
theorem test_decode_line_falling :
    decodeTableWord 32 0b0011_0000_000000000000000000000000 = some (.line .falling) := by decide
theorem test_decode_clrdet :
    decodeTableWord 32 0b0100_0000_000000000000000000000000 = some .clrdet := by decide
theorem test_decode_rearm :
    decodeTableWord 32 0b0101_0000_000000000000000000000000 = some .rearm := by decide
theorem test_decode_disable :
    decodeTableWord 32 0b0110_0000_000000000000000000000000 = some .disable := by decide
theorem test_decode_rdframe :
    decodeTableWord 32 0b0111_0000_000000000000000000000000 = some .rdframe := by decide
theorem test_decode_rdaddr :
    decodeTableWord 32 0b1000_0000_000000000000000000000000 = some .rdaddr := by decide
theorem test_decode_rdkey :
    decodeTableWord 32 0b1001_0000_000000000000000000000000 = some .rdkey := by decide
theorem test_decode_rddet :
    decodeTableWord 32 0b1010_0000_000000000000000000000000 = some .rddet := by decide
theorem test_decode_reset :
    decodeTableWord 32 0b1111_0000_000000000000000000000000 = some .reset := by decide

/-- The words of V-FIRST-2, V-FALL-1, V-MISS-1, V-SYNC-4, V-DESYNC-2, V-BIT-5 and V-DONE-2 are the event
words of those rows. -/
theorem test_decode_sub_operation_words :
    [0x1000FFFF, 0x10000280, 0x10000708, 0x10002EE0, 0x100001C1, 0x100001C2, 0x10000780].map
        (decodeTableWord 32) =
      [Instr.edgeFirst 65535#24, .edgeFall 640#24, .riseMiss 1800#24, .riseSync 12000#24,
        .riseDesync 449#24, .riseBit 450#24, .riseDone 1920#24].map fun i => some i.event := by
  decide

/-- 95_test_vectors.md, section 2.6. -/
theorem test_illegal_words :
    [0x00000000#32, 0x00000280#32, 0xB0000000#32, 0xC0000000#32, 0xD0000000#32, 0xE0000000#32,
      0x11000280#32, 0x10010000#32, 0x30000002#32, 0x40000001#32, 0x5F000000#32, 0x70000001#32,
      0x80000001#32, 0x90000001#32, 0xA0000001#32, 0xF0000001#32].map illegal =
    [some .opZero, some .opZero, some .opReserved, some .opReserved, some .opReserved,
      some .opReserved, some .zeroField, some .readingTooLarge, some .polarityArg,
      some .argNotZero, some .zeroField, some .argNotZero, some .argNotZero, some .argNotZero,
      some .argNotZero, some .argNotZero] := by decide

/-! The predicates (95_test_vectors.md, section 2.1) -/

theorem test_validRange :
    [(450, 450), (8500, 8500), (1920, 640), (640, 1920)].all
        (fun p => validRange Config.built p.1 p.2) = true ∧
      [(449, 450), (450, 449), (8501, 8500), (8500, 8501), (20, 640), (640, 20), (20000, 640),
        (0, 0), (65535, 65535)].any (fun p => validRange Config.built p.1 p.2) = false := by decide

theorem test_decodeBit :
    [(600, 1800), (1000, 1500), (1001, 1502), (999, 1499), (450, 675), (451, 677), (5666, 8499),
        (5666, 8500), (0, 0), (1, 2), (3, 5)].all (fun p => decodeBit p.1 p.2) = true ∧
      [(1800, 600), (1000, 1499), (1001, 1501), (999, 1498), (451, 676), (450, 450), (8500, 8500),
        (5667, 8500), (1, 1), (3, 4)].any (fun p => decodeBit p.1 p.2) = false := by decide

theorem test_isPreamble :
    [(20000, 640), (16000, 640), (25600, 640), (12000, 480), (19200, 480), (32000, 800),
        (20000, 800)].all (fun p => isPreamble Config.built p.1 p.2) = true ∧
      [(1800, 600), (15999, 640), (25601, 640), (26239, 640), (11999, 480), (19201, 480),
        (12000, 479), (32001, 800), (20025, 801), (0, 0), (0, 640), (65535, 640),
        (65535, 1639)].any (fun p => isPreamble Config.built p.1 p.2) = false := by decide

theorem test_classify :
    classify Config.built 20000 640 false = .preamble ∧
      classify Config.built 20000 640 true = .invalid ∧
      classify Config.built 640 1920 false = .miss ∧
      classify Config.built 640 1920 true = .bit true ∧
      classify Config.built 1920 640 true = .bit false ∧
      classify Config.built 2560 0 false = .miss := by decide

/-- The packed forms of R55, with its example. -/
theorem test_packed_forms :
    frame24 0x12345#20 0x3#4 = 0x123453#24 ∧ frame25 true 0x12345#20 0x3#4 = 0x1123453#25 := by
  decide

/-- The codes of R54. -/
theorem test_enumeration_codes :
    [Phase.awaitingFirstEdge, .awaitingFallingEdge, .awaitingRisingEdge].map Phase.code =
        [0b00#2, 0b01#2, 0b10#2] ∧
      [Polarity.falling, .rising].map Polarity.code = [0#1, 1#1] := by decide

/-! One step of each operation (95_test_vectors.md, sections 2.2 to 2.5) -/

/-- V-FALL-1, through the event word. -/
theorem test_step_notify_fall :
    after (step ((inPhase .awaitingFallingEdge 0).withFetchWord 32 0x10000280))
        (fun u => (u.phase, u.armedPolarity, u.hiLatch.toNat, u.count.toNat)) =
      some (.awaitingRisingEdge, .rising, 640, 0) := by decide

/-- V-NOT-1. -/
theorem test_step_notify_disabled_refused :
    refusal (step (completed.withFetchWord 32 0x10000280)) = some .notifyWhileDisabled := by decide

/-- V-FIRST-2: the reading is discarded. -/
theorem test_edgeFirst_discards_reading :
    after (exec (.edgeFirst 65535#24)
        { inPhase .awaitingFirstEdge 0 with count := 1234#16 })
        (fun u => (u.phase, u.armedPolarity, u.count.toNat, u.hiLatch.toNat)) =
      some (.awaitingFallingEdge, .falling, 0, 0) := by decide

/-- R56: a row that is not selected has no step. -/
theorem test_edgeFirst_not_selected :
    refusal (exec (.edgeFirst 0#24) (inPhase .awaitingFallingEdge 0)) = some .notSelected := by
  decide

/-- V-FALL-3. -/
theorem test_edgeFall_saturated :
    after (exec (.edgeFall 65535#24)
        { receivingAt 7 0x120000#24 640 with phase := .awaitingFallingEdge })
        (fun u => (u.phase, u.hiLatch.toNat, u.count.toNat, u.bitIndex, u.accumulator)) =
      some (.awaitingRisingEdge, 65535, 0, 7#5, 0x120000#24) := by decide

/-- V-MISS-6: the ratio just over 40. -/
theorem test_riseMiss_ratio_above :
    after (exec (.riseMiss 25601#24) (inPhase .awaitingRisingEdge 640))
        (fun u => (u.phase, u.armedPolarity, u.count.toNat, u.hiLatch.toNat, u.preambleFound)) =
      some (.awaitingFallingEdge, .falling, 0, 640, false) := by decide

/-- V-MISS-3: after a desync the edge is a miss. -/
theorem test_riseMiss_after_desync :
    after (exec (.riseMiss 2560#24) (inPhase .awaitingRisingEdge 0))
        (fun u => (u.phase, u.armedPolarity, u.count.toNat, u.hiLatch.toNat)) =
      some (.awaitingFallingEdge, .falling, 0, 0) := by decide

/-- V-SYNC-4: the lower end of both bands. -/
theorem test_riseSync_lower_ends :
    after (exec (.riseSync 12000#24) (inPhase .awaitingRisingEdge 480))
        (fun u => (u.phase, u.armedPolarity, u.preambleFound, u.bitIndex, u.hiLatch.toNat)) =
      some (.awaitingFallingEdge, .falling, true, 0#5, 480) := by decide

/-- V-SYNC-5: the upper end of both bands. -/
theorem test_riseSync_upper_ends :
    after (exec (.riseSync 32000#24) (inPhase .awaitingRisingEdge 800))
        (fun u => (u.preambleFound, u.bitIndex, u.accumulator, u.count.toNat)) =
      some (true, 0#5, 0#24, 0) := by decide

/-- V-DESYNC-2: 23 good bits are lost. -/
theorem test_riseDesync_at_last_bit :
    after (exec (.riseDesync 449#24) (receivingAt 23 0x123452#24 1920))
        (fun u => (u.phase, u.preambleFound, u.bitIndex, u.accumulator, u.hiLatch.toNat, u.enabled)) =
      some (.awaitingRisingEdge, false, 0#5, 0#24, 0, true) := by decide

/-- V-DESYNC-3: a preamble in mid-frame. -/
theorem test_riseDesync_on_preamble :
    after (exec (.riseDesync 20000#24) (receivingAt 10 0xABC000#24 640))
        (fun u => (u.phase, u.armedPolarity, u.count.toNat, u.preambleFound, u.accumulator)) =
      some (.awaitingRisingEdge, .rising, 0, false, 0#24) := by decide

/-- V-BIT-5: the 23rd bit. -/
theorem test_riseBit_last_but_one :
    after (exec (.riseBit 450#24) (receivingAt 22 0xFFFFFC#24 8500))
        (fun u => (u.phase, u.bitIndex, u.accumulator, u.count.toNat)) =
      some (.awaitingFallingEdge, 23#5, 0xFFFFFE#24, 0) := by decide

/-- V-BIT-8: a 0 leaves the position clear. -/
theorem test_riseBit_zero :
    after (exec (.riseBit 5667#24) (receivingAt 1 0x800000#24 8500))
        (fun u => (u.armedPolarity, u.bitIndex, u.accumulator)) =
      some (.falling, 2#5, 0x800000#24) := by decide

/-- V-DONE-1. -/
theorem test_riseDone_publishes :
    after (exec (.riseDone 640#24) (receivingAt 23 0x123452#24 1920))
        (fun u => (u.address, u.key, u.detected, u.enabled, u.phase, u.count.toNat)) =
      some (0x12345#20, 0x3#4, true, false, .awaitingFirstEdge, 640) := by decide

/-- V-DONE-3: an unconsumed frame is overwritten, and the decoder is cleared. -/
theorem test_riseDone_overwrites :
    after (exec (.riseDone 1920#24)
        { receivingAt 23 0xAAAAAA#24 640 with
          address := 0x12345#20, key := 0x3#4, detected := true })
        (fun u => (u.address, u.key, u.detected, u.bitIndex, u.accumulator, u.hiLatch.toNat)) =
      some (0xAAAAA#20, 0xA#4, true, 0#5, 0#24, 0) := by decide

/-- V-TICK-2: the count saturates. -/
theorem test_tick_saturates :
    after (exec (.tick 1000#24) { inPhase .awaitingFirstEdge 0 with count := 65000#16 })
      (fun u => u.count.toNat) = some 65535 := by decide

/-- V-TICK-4: halted while disabled. -/
theorem test_tick_disabled :
    after (exec (.tick 50#24) completed) (fun u => u.count.toNat) = some 640 := by decide

/-- V-LINE-1. -/
theorem test_line_delivers :
    after (exec (.line .falling) { inPhase .awaitingFallingEdge 0 with count := 640#16 })
        (fun u => (u.phase, u.hiLatch.toNat, u.armedPolarity, u.count.toNat)) =
      some (.awaitingRisingEdge, 640, .rising, 0) := by decide

/-- V-LINE-5: not the armed polarity. -/
theorem test_line_lost :
    after (exec (.line .falling) { inPhase .awaitingRisingEdge 0 with count := 700#16 })
        (fun u => (u.phase, u.count.toNat)) = some (.awaitingRisingEdge, 700) := by decide

/-- V-CLR-1. -/
theorem test_clrdet :
    after (exec .clrdet completed) (fun u => (u.detected, u.address, u.key)) =
      some (false, 0x12345#20, 0x3#4) := by decide

/-- V-REARM-2. -/
theorem test_rearm_keeps_frame :
    after (exec .rearm completed)
        (fun u => (u.enabled, u.armedPolarity, u.detected, u.address, u.key, u.count.toNat)) =
      some (true, .rising, true, 0x12345#20, 0x3#4, 640) := by decide

/-- V-REARM-3. -/
theorem test_rearm_discards_partial_frame :
    after (exec .rearm (receivingAt 10 0xABC000#24 640))
        (fun u => (u.phase, u.preambleFound, u.bitIndex, u.accumulator, u.hiLatch.toNat, u.enabled)) =
      some (.awaitingFirstEdge, false, 0#5, 0#24, 0, true) := by decide

/-- V-DIS-2: the polarity stays. -/
theorem test_disable :
    after (exec .disable
        { receivingAt 2 0x800000#24 0 with
          phase := .awaitingFallingEdge, armedPolarity := .falling, detected := true })
        (fun u => (u.phase, u.preambleFound, u.bitIndex, u.enabled, u.armedPolarity, u.detected)) =
      some (.awaitingFirstEdge, false, 0#5, false, .falling, true) := by decide

/-- V-RD-1. -/
theorem test_rdframe :
    after (exec .rdframe completed) (fun u => (u.lastRead, u.detected)) =
      some (some (.frame 0x1123453#25), true) := by decide

/-- V-RD-6, with the address of `completed`. -/
theorem test_rdaddr :
    after (exec .rdaddr completed) (fun u => u.lastRead) = some (some (.address 0x12345#20)) := by
  decide

/-- V-RD-7, with the key of `completed`. -/
theorem test_rdkey :
    after (exec .rdkey completed) (fun u => u.lastRead) = some (some (.key 0x3#4)) := by decide

/-- V-RD-8. -/
theorem test_rddet :
    after (exec .rddet completed) (fun u => (u.lastRead, u.detected)) =
      some (some (.detected 1#1), true) := by decide

/-- V-RST-2. -/
theorem test_reset :
    after (exec .reset { receivingAt 12 0x123000#24 0 with detected := true, count := 9#16 })
        (fun u => (u.phase, u.bitIndex, u.accumulator, u.detected, u.enabled, u.count.toNat)) =
      some (.awaitingFirstEdge, 0#5, 0#24, false, false, 0) := by decide

/-- V-RST-1: a program can start from reset. -/
theorem test_first_step_after_reset :
    after (step (State.reset.withFetchWord 32 0x50000000)) (fun u => (u.enabled, u.phase)) =
      some (true, .awaitingFirstEdge) := by decide

/-! The trace syntax (R60 to R62) -/

theorem test_line_notify :
    parseLine "NOTIFY 0x280 ; a comment".toList = some [⟨.notify 640#24, none⟩] := by decide
theorem test_line_pulse :
    parseLine "PULSE 640, 20".toList = some [⟨.notify 640#24, none⟩, ⟨.notify 20#24, none⟩] := by
  decide
theorem test_line_polarity : parseLine "LINE R".toList = some [⟨.line .rising, none⟩] := by decide
theorem test_line_lo :
    parseLine "LO 300".toList = some [⟨.tick 300#24, none⟩, ⟨.line .rising, none⟩] := by decide
theorem test_line_assertion :
    parseLine "RDFRAME -> 0x0??????".toList = some [⟨.rdframe, some ⟨0, 0xFFFFFF⟩⟩] := by decide
theorem test_line_lower_case_digits :
    parseLine "TICK 0xfF".toList = some [⟨.tick 255#24, none⟩] := by decide
theorem test_line_not_decimal : parseLine "TICK 1A".toList = none := by decide
theorem test_line_too_large : parseLine "NOTIFY 65536".toList = none := by decide
theorem test_pre : Pseudo.pre.expand = some [.notify 640#24, .notify 20000#24] := by decide
theorem test_bit1 : (Pseudo.bit1 640).expand = some [.notify 1920#24, .notify 640#24] := by decide

/-- A failed assertion rejects the run (R62). -/
theorem test_assertion_fails :
    (match runLines [⟨.rdkey, some ⟨4, 0⟩⟩] completed with
      | .error why => some why
      | .ok _ => none) = some .assertionFailed := by decide

/-! For each statement with hypotheses, operands and states that meet them together, at the ends of the
ranges where a statement has several clauses. -/

/-- A state after a completion meets the invariants. -/
theorem test_completed_inv : completed.Inv := by
  constructor <;> decide

/-- A frame in progress, one bit short, meets the invariants. -/
theorem test_receiving_inv : (receivingAt 23 0x123452#24 1920).Inv := by
  constructor <;> decide

/-- The first phase, enabled, meets the invariants. -/
theorem test_unsynced_inv : (inPhase .awaitingFirstEdge 0).Inv := by
  constructor <;> decide

theorem test_witness_EdgeFirstEffect :
    Arg.LegalReading 65535#24 ∧ (inPhase .awaitingFirstEdge 0).enabled = true ∧
      (inPhase .awaitingFirstEdge 0).phase = .awaitingFirstEdge := by decide

theorem test_witness_EdgeFallEffect :
    Arg.LegalReading 65535#24 ∧ (inPhase .awaitingFallingEdge 0).enabled = true ∧
      (inPhase .awaitingFallingEdge 0).phase = .awaitingFallingEdge := by decide

theorem test_witness_RiseMissEffect :
    Arg.LegalReading 65535#24 ∧ (inPhase .awaitingRisingEdge 640).enabled = true ∧
      (inPhase .awaitingRisingEdge 640).phase = .awaitingRisingEdge ∧
      (inPhase .awaitingRisingEdge 640).preambleFound = false ∧
      isPreamble Config.built (65535#24).toNat
        (inPhase .awaitingRisingEdge 640).hiLatch.toNat = false := by decide

theorem test_witness_RiseSyncEffect :
    Arg.LegalReading 25600#24 ∧ (inPhase .awaitingRisingEdge 640).enabled = true ∧
      (inPhase .awaitingRisingEdge 640).phase = .awaitingRisingEdge ∧
      (inPhase .awaitingRisingEdge 640).preambleFound = false ∧
      isPreamble Config.built (25600#24).toNat
        (inPhase .awaitingRisingEdge 640).hiLatch.toNat = true := by decide

theorem test_witness_RiseDesyncEffect :
    Arg.LegalReading 20#24 ∧ (receivingAt 5 0x900000#24 640).enabled = true ∧
      (receivingAt 5 0x900000#24 640).phase = .awaitingRisingEdge ∧
      (receivingAt 5 0x900000#24 640).preambleFound = true ∧
      validRange Config.built (20#24).toNat
        (receivingAt 5 0x900000#24 640).hiLatch.toNat = false := by decide

theorem test_witness_RiseBitEffect :
    Arg.LegalReading 450#24 ∧ (receivingAt 22 0xFFFFFC#24 8500).enabled = true ∧
      (receivingAt 22 0xFFFFFC#24 8500).phase = .awaitingRisingEdge ∧
      (receivingAt 22 0xFFFFFC#24 8500).preambleFound = true ∧
      validRange Config.built (450#24).toNat
        (receivingAt 22 0xFFFFFC#24 8500).hiLatch.toNat = true ∧
      (receivingAt 22 0xFFFFFC#24 8500).bitIndex.toNat ≤ 22 := by decide

theorem test_witness_RiseDoneEffect :
    Arg.LegalReading 640#24 ∧ (receivingAt 23 0x123452#24 1920).enabled = true ∧
      (receivingAt 23 0x123452#24 1920).phase = .awaitingRisingEdge ∧
      (receivingAt 23 0x123452#24 1920).preambleFound = true ∧
      validRange Config.built (640#24).toNat
        (receivingAt 23 0x123452#24 1920).hiLatch.toNat = true ∧
      (receivingAt 23 0x123452#24 1920).bitIndex.toNat = 23 := by decide

theorem test_witness_NotifyRunsItsOneSubOperation :
    (SubOp.selected .riseDone 640 (receivingAt 23 0x123452#24 1920) = true) ∧
      Arg.LegalReading 65535#24 ∧ (receivingAt 23 0x123452#24 1920).enabled = true ∧
      (receivingAt 23 0x123452#24 1920).bitIndex.toNat ≤ 23 := by decide

theorem test_witness_NotifyAcceptsEveryReading :
    Arg.LegalReading 0#24 ∧ Arg.LegalReading 65535#24 ∧
      (receivingAt 23 0x123452#24 1920).enabled = true := by decide

theorem test_witness_NotifyRefusedWhileDisabled :
    Arg.LegalReading 640#24 ∧ completed.enabled = false := by decide

theorem test_witness_TickEffect :
    (inPhase .awaitingFirstEdge 0).enabled = true ∧ completed.enabled = false := by decide

theorem test_witness_TickSourceIsMonotonic :
    (∃ u, exec (.tick 65535#24) (inPhase .awaitingFirstEdge 0) = .next u) ∧
      (inPhase .awaitingFirstEdge 0).enabled = true ∧
      (inPhase .awaitingFirstEdge 0).count.toNat + (65535#24).toNat < 2 ^ tickW :=
  ⟨⟨_, rfl⟩, by decide⟩

theorem test_witness_LineEffect :
    ((inPhase .awaitingFallingEdge 0).enabled = true ∧
        (inPhase .awaitingFallingEdge 0).armedPolarity = .falling) ∧
      ((inPhase .awaitingFallingEdge 0).enabled = true ∧
        (inPhase .awaitingFallingEdge 0).armedPolarity ≠ .rising) ∧
      completed.enabled = false := by decide

theorem test_witness_ApplicationOperationsAreIdempotent :
    Instr.clrdet.agent = .app ∧ ∃ u, exec .clrdet completed = .next u := ⟨by decide, _, rfl⟩

theorem test_witness_DecodeInvertsEncode : (Instr.notify 65535#24).WellFormed := by decide

theorem test_witness_EncodeInvertsDecode :
    decode 0x1000FFFF#32 = .ok (.notify 65535#24) ∧ decode 0x20FFFFFF#32 = .ok (.tick 16777215#24) :=
  ⟨rfl, rfl⟩

/-- One word for each clause, at an end of its range; the fields are those the statement names. -/
theorem test_witness_IllegalWordsAreExactlyThese :
    ((0x00000280#32).toNat / 2 ^ 28 = 0x0) ∧
      ((0xB0000000#32).toNat / 2 ^ 28 = 0xB ∧ (0xE0000000#32).toNat / 2 ^ 28 = 0xE) ∧
      ((0x11000280#32).toNat / 2 ^ 24 % 2 ^ 4 ≠ 0) ∧
      ((0x40000001#32).toNat % 2 ^ 24 ≠ 0 ∧ (0xF0000001#32).toNat % 2 ^ 24 ≠ 0) ∧
      ((0x30000002#32).toNat % 2 ^ 24 / 2 ≠ 0) ∧
      2 ^ tickW ≤ (0x10010000#32).toNat % 2 ^ 24 := by decide

theorem test_witness_EncodedWordFitsItsTableRow : (Instr.riseDone 65535#24).WellFormed := by decide

theorem test_witness_StepRunsDecodedOperation :
    ({ completed with trace := [0x50000000#32] } : State).trace = [0x50000000#32] ∧
      decode 0x50000000#32 = .ok .rearm := ⟨rfl, rfl⟩

theorem test_witness_StepRefusesIllegalWord :
    ({ completed with trace := [0x00000280#32] } : State).trace = [0x00000280#32] ∧
      decode 0x00000280#32 = .error .opZero := ⟨rfl, rfl⟩

theorem test_witness_StepWaitsWithoutEvent : State.reset.trace = [] := rfl

theorem test_witness_StepTakesOneEvent :
    ∃ u, step { completed with trace := [0x50000000#32] } = .next u := ⟨_, rfl⟩

theorem test_witness_PlacedWordIsPerformed : (Instr.line .falling).WellFormed := by decide

theorem test_witness_PreambleInMidFrameIsInvalid :
    Config.built.validMax < Config.built.ratioMin * Config.built.preHighMin ∧
      isPreamble Config.built 12000 480 = true := by decide

/-- Both clauses at the two ends of the range of base periods. -/
theorem test_witness_NominalBitsAreReadRight :
    (Config.built.validMin ≤ 450 ∧ 3 * 450 ≤ Config.built.validMax) ∧
      (Config.built.validMin ≤ 2833 ∧ 3 * 2833 ≤ Config.built.validMax) ∧
      ¬(Config.built.validMin ≤ 449 ∧ 3 * 449 ≤ Config.built.validMax) ∧
      ¬(Config.built.validMin ≤ 2834 ∧ 3 * 2834 ≤ Config.built.validMax) := by decide

theorem test_witness_OneBitBounds :
    classify Config.built 450 675 true = .bit true ∧
      classify Config.built 5666 8499 true = .bit true := by decide

theorem test_witness_InsertBitReadingsAgree :
    (0xFFFFFE#24 : Accumulator).getLsbD (23 - 23) = false ∧
      (0x000000#24 : Accumulator).getLsbD (23 - 0) = false := by decide

theorem test_witness_FrameReceptionPublishesItsBits :
    (inPhase .awaitingFirstEdge 0).enabled = true ∧
      (inPhase .awaitingFirstEdge 0).phase = .awaitingFirstEdge ∧
      (inPhase .awaitingFirstEdge 0).preambleFound = false ∧
      PulseSample.preamble ⟨640, 20000⟩ = true ∧
      (List.replicate 24 (PulseSample.mk 1920 640)).length = 24 ∧
      ∀ p ∈ List.replicate 24 (PulseSample.mk 1920 640), p.valid = true := by decide

theorem test_witness_FrameExpansion : 3 * 21845 < 2 ^ tickW := by decide

theorem test_witness_StepKeepsInvariants :
    ∃ s u, State.Inv s ∧ step s = .next u :=
  ⟨_, _, test_completed_inv, rfl⟩

theorem test_witness_UnreceivedPositionsAreZero :
    (receivingAt 23 0x123452#24 1920).Inv ∧
      0 + (receivingAt 23 0x123452#24 1920).bitIndex.toNat ≤ 23 :=
  ⟨test_receiving_inv, by decide⟩

theorem test_witness_CoreLevelsPartition :
    completed.Inv ∧ (receivingAt 23 0x123452#24 1920).Inv ∧ (inPhase .awaitingFirstEdge 0).Inv :=
  ⟨test_completed_inv, test_receiving_inv, test_unsynced_inv⟩

theorem test_witness_TransitionsFollowTheTable :
    (inPhase .awaitingFirstEdge 0).Inv ∧ (inPhase .awaitingFirstEdge 0).atLevel .unsynced = true ∧
      ∃ u, exec (.notify 0#24) (inPhase .awaitingFirstEdge 0) = .next u ∧
        u.atLevel .syncing = true :=
  ⟨test_unsynced_inv, by decide, _, rfl, by decide⟩

theorem test_witness_CompleteIsQuiescent :
    completed.Inv ∧ completed.enabled = false ∧ ∃ u, exec .rearm completed = .next u :=
  ⟨test_completed_inv, by decide, _, rfl⟩

/-- A completion: the case in which the frame's fields change. -/
theorem test_witness_FrameFieldsChangeOnlyAtCompletion :
    ∃ u, exec (.notify 640#24) (receivingAt 23 0x123452#24 1920) = .next u ∧
      u.address ≠ (receivingAt 23 0x123452#24 1920).address :=
  ⟨_, rfl, by decide⟩

/-- Each of the four changes of a flag; `enabled` falls by `DISABLE`, and at a completion that finds
`detected` already 1. -/
theorem test_witness_FlagWriters :
    (∃ u, exec .clrdet completed = .next u ∧ completed.detected = true ∧ u.detected = false) ∧
      (∃ u, exec (.notify 640#24) (receivingAt 23 0x123452#24 1920) = .next u ∧
        (receivingAt 23 0x123452#24 1920).detected = false ∧ u.detected = true) ∧
      (∃ u, exec .rearm completed = .next u ∧ completed.enabled = false ∧ u.enabled = true) ∧
      (∃ u, exec .disable (inPhase .awaitingFirstEdge 0) = .next u ∧
        (inPhase .awaitingFirstEdge 0).enabled = true ∧ u.enabled = false) ∧
      ∃ u, exec (.riseDone 1920#24)
          { receivingAt 23 0xAAAAAA#24 640 with detected := true } = .next u ∧
        (receivingAt 23 0xAAAAAA#24 640).enabled = true ∧ u.enabled = false :=
  ⟨⟨_, rfl, by decide⟩, ⟨_, rfl, by decide⟩, ⟨_, rfl, by decide⟩, ⟨_, rfl, by decide⟩,
    ⟨_, rfl, by decide⟩⟩

theorem test_witness_ArmedPolarityIsOnlyAnOutput :
    (∀ q, Instr.notify 640#24 ≠ .line q) ∧
      ∃ u, exec (.notify 640#24) (inPhase .awaitingFallingEdge 0) = .next u :=
  ⟨nofun, _, rfl⟩

theorem test_witness_DecoderIgnoresDecodedFrame :
    ∃ u, exec (.notify 640#24) (receivingAt 23 0x123452#24 1920) = .next u := ⟨_, rfl⟩

/-- Two states that differ outside DecodedFrame. -/
theorem test_witness_ReadsSeeOnlyDecodedFrame :
    Instr.rdframe.agent = .app ∧ SameFrame (inPhase .awaitingFirstEdge 0) (receivingAt 3 0 0) ∧
      (inPhase .awaitingFirstEdge 0).lastRead = (receivingAt 3 0 0).lastRead ∧
      (∃ u, exec .rdframe (inPhase .awaitingFirstEdge 0) = .next u) ∧
      ∃ u', exec .rdframe (receivingAt 3 0 0) = .next u' :=
  ⟨by decide, ⟨by decide, by decide, by decide⟩, by decide, ⟨_, rfl⟩, _, rfl⟩

theorem test_witness_EdgeAfterDesyncActsAsFirstEdge :
    Arg.LegalReading 20#24 ∧ Arg.LegalReading 2560#24 ∧
      ∃ u, exec (.riseDesync 20#24) (receivingAt 5 0x900000#24 640) = .next u :=
  ⟨by decide, by decide, _, rfl⟩

end Sys2Proof.Tests
end

section
/-! The acceptance of a configuration (spec/00_scope.md R8). -/

namespace Sys2Proof

theorem Config.ofParams?_of_valid {p : Params} (h : p.Valid) :
    Config.ofParams? p = some ⟨p, h⟩ :=
  dif_pos h

theorem Config.ofParams?_of_not_valid {p : Params} (h : ¬ p.Valid) :
    Config.ofParams? p = none :=
  dif_neg h

@[simp] theorem Config.isSome_ofParams?_iff (p : Params) :
    (Config.ofParams? p).isSome = true ↔ p.Valid := by
  by_cases h : p.Valid
  · exact iff_of_true (by rw [Config.ofParams?_of_valid h, Option.isSome_some]) h
  · exact iff_of_false (by simp [Config.ofParams?_of_not_valid h]) h

/-- Settles O36: `Params.Valid` is by definition the conjunction of R8 (a) to (d), with
`Params.tickMax` for `2^TICK_W - 1`; that the defaults meet it is carried by the built instance. -/
theorem configurationsMeetTheConstraints : Obligations.ConfigurationsMeetTheConstraints := by
  refine ⟨fun p => ?constraints, ?defaults⟩
  case constraints => exact Config.isSome_ofParams?_iff p
  case defaults => exact (Config.isSome_ofParams?_iff Params.default).mpr Config.built.valid

end Sys2Proof
end

section
/-! What an operation that answers a next state did (spec/30_encoding.md R51, R56): one case for each
row of R51 with an effect of its own, and the guard of the `NOTIFY` rows as an equivalence. -/

namespace Sys2Proof.Machine

/-! The rows of the core -/

/-- The state a sub-operation leaves where R56 selects it, its reading already in `count` (R65). -/
def SubOp.effect : SubOp → Tick → State → State
  | .edgeFirst => fun _ s => edgeFirstState s
  | .edgeFall => edgeFallState
  | .riseMiss => fun _ s => riseMissState s
  | .riseSync => fun _ s => riseSyncState s
  | .riseDesync => fun _ s => riseDesyncState s
  | .riseBit => fun t s => riseBitState (s.sample t).bit s
  | .riseDone => fun t s => riseDoneState (s.sample t).bit s

theorem exec_subOp_eq (o : SubOp) (t : Arg) (s : State) :
    exec (o.instr t) s = selectedNotify o t s (SubOp.effect o) := by
  cases o <;> rfl

theorem SubOp.effect_eq_notifyState {o : SubOp} {t : Tick} {s : State}
    (h : SubOp.selected o t s = true) : SubOp.effect o t (s.setCount t) = notifyState t s := by
  obtain ⟨hfirst, hfall, hmiss, hsync, hdesync, hbit, hdone⟩ :=
    selected_notifyState (t := t) (s := s)
  cases o with
  | edgeFirst => exact hfirst h
  | edgeFall => exact hfall h
  | riseMiss => exact hmiss h
  | riseSync => exact hsync h
  | riseDesync => exact hdesync h
  | riseBit => exact hbit h
  | riseDone => exact hdone h

theorem exec_subOp_next_iff {o : SubOp} {t : Arg} {s u : State} :
    exec (o.instr t) s = .next u ↔
      t.LegalReading ∧ s.enabled = true ∧ SubOp.selected o (t.setWidth tickW) s = true ∧
        u = notifyState (t.setWidth tickW) s := by
  rw [exec_subOp_eq]
  constructor
  · intro h
    obtain ⟨ht, he, hs, rfl⟩ := selectedNotify_next h
    exact ⟨ht, he, hs, SubOp.effect_eq_notifyState hs⟩
  · rintro ⟨ht, he, hs, rfl⟩
    rw [selectedNotify_eq _ ht he hs, SubOp.effect_eq_notifyState hs]

theorem exec_notify_next_iff {t : Arg} {s u : State} :
    exec (.notify t) s = .next u ↔
      t.LegalReading ∧ s.enabled = true ∧ u = notifyState (t.setWidth tickW) s := by
  constructor
  · intro h
    simp only [exec, execNotify] at h
    obtain ⟨ht, he, hu⟩ := notified_next h
    cases hu
    exact ⟨ht, he, rfl⟩
  · rintro ⟨ht, he, rfl⟩
    exact exec_notify_eq ht he

theorem agent_core_cases {i : Instr} (h : i.agent = .core) :
    ∃ t, i = .notify t ∨ ∃ o : SubOp, i = o.instr t := by
  cases i with
  | notify t => exact ⟨t, .inl rfl⟩
  | edgeFirst t => exact ⟨t, .inr ⟨.edgeFirst, rfl⟩⟩
  | edgeFall t => exact ⟨t, .inr ⟨.edgeFall, rfl⟩⟩
  | riseMiss t => exact ⟨t, .inr ⟨.riseMiss, rfl⟩⟩
  | riseSync t => exact ⟨t, .inr ⟨.riseSync, rfl⟩⟩
  | riseDesync t => exact ⟨t, .inr ⟨.riseDesync, rfl⟩⟩
  | riseBit t => exact ⟨t, .inr ⟨.riseBit, rfl⟩⟩
  | riseDone t => exact ⟨t, .inr ⟨.riseDone, rfl⟩⟩
  | tick _ | line _ | clrdet | rearm | disable | rdframe | rdaddr | rdkey | rddet | reset => cases h

/-! Every operation -/

/-- `Notification i`: the operation can give the core an edge, a `NOTIFY` row or `LINE` (R116). -/
def Notification (i : Instr) : Prop := i.agent = .core ∨ ∃ p, i = .line p

theorem Notification.agent_ne_app {i : Instr} (h : Notification i) : i.agent ≠ .app := by
  rcases h with h | ⟨p, rfl⟩
  · simp [h]
  · simp [Instr.agent]

/-- The effects an operation can have, by the operation: `Performed i s u` where performing `i` in `s`
leaves `u`. -/
inductive Performed : Instr → State → State → Prop where
  | notified {i : Instr} {s : State} (t : Tick) (hi : Notification i) (he : s.enabled = true) :
      Performed i s (notifyState t s)
  | lineLost {s : State} (p : Polarity) : Performed (.line p) s s
  | ticked {s : State} (n : Arg) (he : s.enabled = true) :
      Performed (.tick n) s (s.setCount (saturatingTicks s.count n.toNat))
  | tickStopped {s : State} (n : Arg) (he : s.enabled = false) : Performed (.tick n) s s
  | clrdet {s : State} : Performed .clrdet s (s.setDetected false)
  | rearm {s : State} :
      Performed .rearm s ((s.clearDecoder.setPhase .awaitingFirstEdge).armForEdge .rising).enable
  | disable {s : State} :
      Performed .disable s (s.clearDecoder.setPhase .awaitingFirstEdge).disable
  | read {i : Instr} {s : State} (r : ReadResult) (hi : i.agent = .app) :
      Performed i s (s.returnRead r)
  | reset {s u : State} (hu : execReset s = .next u) : Performed .reset s u

/-- What an operation can do, said once for all operations. -/
theorem exec_performed {i : Instr} {s u : State} (h : exec i s = .next u) : Performed i s u := by
  by_cases hcore : i.agent = .core
  · obtain ⟨he, t, rfl⟩ := exec_core_next hcore h
    exact .notified t (.inl hcore) he
  · cases i with
    | notify _ | edgeFirst _ | edgeFall _ | riseMiss _ | riseSync _ | riseDesync _ | riseBit _
    | riseDone _ => exact absurd rfl hcore
    | tick n =>
      rcases exec_tick_next h with ⟨he, rfl⟩ | ⟨he, rfl⟩
      · exact .ticked n he
      · exact .tickStopped n he
    | line p =>
      rcases exec_line_next h with rfl | ⟨he, -, rfl⟩
      · exact .lineLost p
      · exact .notified _ (.inr ⟨p, rfl⟩) he
    | clrdet => cases h; exact .clrdet
    | rearm => cases h; exact .rearm
    | disable => cases h; exact .disable
    | rdframe | rdaddr | rdkey | rddet => cases h; exact .read _ rfl
    | reset => exact .reset h

end Sys2Proof.Machine
end

section
/-! The reset values (spec/10_state.md R28) and the invariants I1 to I9 (R26). -/

namespace Sys2Proof.Machine

/-- Settles O23. -/
theorem resetStateValues : Obligations.ResetStateValues where
  phase := rfl
  preambleFound := rfl
  bitIndex := rfl
  accumulator := rfl
  hiLatch := rfl
  detected := rfl
  enabled := rfl
  armedPolarity := rfl
  count := rfl

/-! States that meet the invariants -/

/-- The invariants speak of DecoderState, `enabled` and `armedPolarity` only. -/
theorem State.Inv.of_sameDecoder {s u : State} (hs : s.Inv) (hd : SameDecoder s u)
    (he : u.enabled = s.enabled) (ha : u.armedPolarity = s.armedPolarity) : u.Inv := by
  obtain ⟨hphase, hfound, hindex, hacc, hlatch⟩ := hd
  constructor <;> simp only [hphase, hfound, hindex, hacc, hlatch, he, ha]
  case bitIndex_le => exact hs.bitIndex_le
  case searching => exact hs.searching
  case unreceived => exact hs.unreceived
  case receiving => exact hs.receiving
  case disabled => exact hs.disabled
  case first => exact hs.first
  case armedFirst => exact hs.armedFirst
  case armedFalling => exact hs.armedFalling
  case armedRising => exact hs.armedRising

theorem State.Inv.setCount {s : State} (h : s.Inv) (c : Tick) : (s.setCount c).Inv :=
  h.of_sameDecoder ⟨rfl, rfl, rfl, rfl, rfl⟩ rfl rfl

theorem State.Inv.setTrace {s : State} (h : s.Inv) (ws : List EventWord) :
    State.Inv { s with trace := ws } :=
  h.of_sameDecoder ⟨rfl, rfl, rfl, rfl, rfl⟩ rfl rfl

/-- A cleared decoder that awaits the first edge meets the invariants: how every frame attempt ends
(R152) but the soft reset of `RISE.DESYNC`. -/
theorem State.Inv.of_cleared {s : State} (hphase : s.phase = .awaitingFirstEdge)
    (hfound : s.preambleFound = false) (hindex : s.bitIndex = 0#5) (hacc : s.accumulator = 0#24)
    (hlatch : s.hiLatch = 0#tickW) (harmed : s.enabled = true → s.armedPolarity = .rising) :
    s.Inv := by
  constructor <;> simp [hphase, hfound, hindex, hacc, hlatch]
  case armedFirst => exact harmed

theorem State.AfterReset.inv {s : State} (h : s.AfterReset) : s.Inv :=
  .of_cleared h.phase h.preambleFound h.bitIndex h.accumulator h.hiLatch fun _ => h.armedPolarity

/-- Settles O48. -/
theorem resetMeetsInvariants : Obligations.ResetMeetsInvariants :=
  State.AfterReset.inv resetStateValues

/-! I4, position by position -/

theorem toNat_mod_two_pow_eq_zero_iff {w : Nat} (x : BitVec w) (n : Nat) :
    x.toNat % 2 ^ n = 0 ↔ ∀ k < n, x.getLsbD k = false := by
  constructor
  · intro h k hk
    have hbit : (x.toNat % 2 ^ n).testBit k = x.toNat.testBit k := by
      simp [Nat.testBit_mod_two_pow, hk]
    rw [BitVec.getLsbD, ← hbit, h, Nat.zero_testBit]
  · intro h
    refine Nat.eq_of_testBit_eq fun k => ?_
    by_cases hk : k < n
    · simpa [Nat.testBit_mod_two_pow, hk, BitVec.getLsbD] using h k hk
    · simp [Nat.testBit_mod_two_pow, hk]

/-- Settles O49: I4 says it of the number, this of each bit. -/
theorem unreceivedPositionsAreZero : Obligations.UnreceivedPositionsAreZero := by
  intro s hs k hk
  exact (toNat_mod_two_pow_eq_zero_iff _ _).mp hs.unreceived k (by omega)

/-- Inserting bit `i` leaves the positions below its own. -/
theorem insertBit_getLsbD_of_lt (acc : Accumulator) (i : Nat) (b : Bool) {k : Nat}
    (hk : k < 23 - i) : (insertBit acc i b).getLsbD k = acc.getLsbD k := by
  simp [insertBit, hk]

/-- Inserting bit `i` keeps I4, for one received bit more. -/
theorem insertBit_unreceived {acc : Accumulator} {i : Nat} (b : Bool)
    (h : acc.toNat % 2 ^ (24 - i) = 0) : (insertBit acc i b).toNat % 2 ^ (24 - (i + 1)) = 0 := by
  rw [toNat_mod_two_pow_eq_zero_iff] at h ⊢
  intro k hk
  rw [insertBit_getLsbD_of_lt acc i b (by omega)]
  exact h k (by omega)

/-! Each sub-operation keeps the invariants -/

theorem edgeFirstState_inv {s : State} (hs : s.Inv) (he : s.enabled = true)
    (hp : s.phase = .awaitingFirstEdge) : (edgeFirstState s).Inv := by
  obtain ⟨hfound, -⟩ := hs.first hp
  rw [edgeFirstState_eq]
  constructor <;> simp [he, hfound]
  case bitIndex_le => exact hs.bitIndex_le
  case searching => exact hs.searching hfound
  case unreceived => exact hs.unreceived

theorem edgeFallState_inv {s : State} (hs : s.Inv) (he : s.enabled = true) (t : Tick) :
    (edgeFallState t s).Inv := by
  rw [edgeFallState_eq]
  constructor <;> simp [he]
  case bitIndex_le => exact hs.bitIndex_le
  case searching => exact hs.searching
  case unreceived => exact hs.unreceived

theorem riseMissState_inv {s : State} (hs : s.Inv) (he : s.enabled = true) :
    (riseMissState s).Inv := by
  rw [riseMissState_eq]
  constructor <;> simp [he]
  case bitIndex_le => exact hs.bitIndex_le
  case searching => exact hs.searching
  case unreceived => exact hs.unreceived

theorem riseSyncState_inv {s : State} (he : s.enabled = true) : (riseSyncState s).Inv := by
  rw [riseSyncState_eq]
  constructor <;> simp [he]

theorem riseDesyncState_inv {s : State} (he : s.enabled = true) : (riseDesyncState s).Inv := by
  rw [riseDesyncState_eq]
  constructor <;> simp [he]

theorem riseBitState_inv {s : State} (hs : s.Inv) (he : s.enabled = true)
    (hf : s.preambleFound = true) (hi : s.bitIndex.toNat ≤ 22) (b : Bool) :
    (riseBitState b s).Inv := by
  have hsucc : (s.bitIndex + 1#5).toNat = s.bitIndex.toNat + 1 := by
    rw [BitVec.toNat_add_of_lt] <;> simp; omega
  rw [riseBitState_eq]
  constructor <;> simp only [hsucc]
  case bitIndex_le => omega
  case unreceived => exact insertBit_unreceived b hs.unreceived
  all_goals simp [he, hf]

theorem riseDoneState_inv (b : Bool) (s : State) : (riseDoneState b s).Inv :=
  .of_cleared rfl rfl rfl rfl rfl nofun

theorem notifyState_inv {s : State} (hs : s.Inv) (he : s.enabled = true) (t : Tick) :
    (notifyState t s).Inv := by
  have hc := hs.setCount t
  unfold notifyState
  rcases phaseState_cases t (s.setCount t) with ⟨hp, h⟩ | ⟨-, h⟩ |
    ⟨-, ⟨-, -, h⟩ | ⟨-, -, h⟩ | ⟨-, -, h⟩ | ⟨hf, -, hi, h⟩ | ⟨-, -, -, h⟩⟩ <;> rw [h]
  · exact edgeFirstState_inv hc he hp
  · exact edgeFallState_inv hc he t
  · exact riseMissState_inv hc he
  · exact riseSyncState_inv he
  · exact riseDesyncState_inv he
  · exact riseBitState_inv hc he hf hi _
  · exact riseDoneState_inv _ _

/-! Every operation, and the step -/

theorem Performed.inv {i : Instr} {s u : State} (h : Performed i s u) (hs : s.Inv) : u.Inv := by
  cases h with
  | notified t _ he => exact notifyState_inv hs he t
  | lineLost | tickStopped => exact hs
  | ticked => exact hs.setCount _
  | clrdet | read => exact hs.of_sameDecoder ⟨rfl, rfl, rfl, rfl, rfl⟩ rfl rfl
  | rearm => exact .of_cleared rfl rfl rfl rfl rfl fun _ => rfl
  | disable => exact .of_cleared rfl rfl rfl rfl rfl nofun
  | reset hu => cases hu; exact .of_cleared rfl rfl rfl rfl rfl nofun

/-- Settles O47: a step waits, or performs one operation on the machine with the rest of the trace. -/
theorem stepKeepsInvariants : Obligations.StepKeepsInvariants := by
  intro s u hs h
  rcases step_next h with ⟨-, rfl⟩ | ⟨_, ws, i, -, -, hexec⟩
  · exact hs
  · exact (exec_performed hexec).inv (hs.setTrace ws)

end Sys2Proof.Machine
end

section
/-! Which operations write DecodedFrame and `enabled` (spec/10_state.md R19, R20, R22). -/

namespace Sys2Proof.Machine

/-- A notification that completed a frame (R93, R96): the last bit was due, and the flag is set and the
block disarmed together. -/
structure Completion (i : Instr) (s u : State) : Prop where
  notification : Notification i
  preambleFound : s.preambleFound = true
  bitIndex : 23 ≤ s.bitIndex.toNat
  detected : u.detected = true
  enabled : u.enabled = false

/-- What a notification does to DecodedFrame and `enabled`: it leaves both, or completes a frame. -/
theorem notifyState_frame_or_completion {i : Instr} (hi : Notification i) (t : Tick) (s : State) :
    (SameFrame s (notifyState t s) ∧ (notifyState t s).enabled = s.enabled) ∨
      Completion i s (notifyState t s) := by
  unfold notifyState
  rcases phaseState_cases t (s.setCount t) with ⟨-, h⟩ | ⟨-, h⟩ |
    ⟨-, ⟨-, -, h⟩ | ⟨-, -, h⟩ | ⟨-, -, h⟩ | ⟨-, -, -, h⟩ | ⟨hf, -, hb, h⟩⟩ <;> rw [h]
  case inr.inr.inr.inr.inr.inr => exact .inr ⟨hi, hf, hb, rfl, rfl⟩
  all_goals exact .inl ⟨⟨rfl, rfl, rfl⟩, rfl⟩

/-- Who writes `address` and `key` (R19). -/
theorem Performed.fields {i : Instr} {s u : State} (h : Performed i s u) :
    (u.address = s.address ∧ u.key = s.key) ∨ i = .reset ∨ Completion i s u := by
  cases h with
  | notified t hi =>
    rcases notifyState_frame_or_completion hi t s with ⟨hframe, -⟩ | hdone
    · exact .inl ⟨hframe.address, hframe.key⟩
    · exact .inr (.inr hdone)
  | reset => exact .inr (.inl rfl)
  | lineLost | ticked | tickStopped | clrdet | rearm | disable | read => exact .inl ⟨rfl, rfl⟩

/-- Who writes `detected` (R20). -/
theorem Performed.detected {i : Instr} {s u : State} (h : Performed i s u) :
    u.detected = s.detected ∨ ((i = .clrdet ∨ i = .reset) ∧ u.detected = false) ∨
      Completion i s u := by
  cases h with
  | notified t hi =>
    rcases notifyState_frame_or_completion hi t s with ⟨hframe, -⟩ | hdone
    · exact .inl hframe.detected
    · exact .inr (.inr hdone)
  | clrdet => exact .inr (.inl ⟨.inl rfl, rfl⟩)
  | reset hu => cases hu; exact .inr (.inl ⟨.inr rfl, rfl⟩)
  | lineLost | ticked | tickStopped | rearm | disable | read => exact .inl rfl

/-- Who writes `enabled` (R22). -/
theorem Performed.enabled {i : Instr} {s u : State} (h : Performed i s u) :
    u.enabled = s.enabled ∨ (i = .rearm ∧ u.enabled = true) ∨
      ((i = .disable ∨ i = .reset) ∧ u.enabled = false) ∨ Completion i s u := by
  cases h with
  | notified t hi =>
    rcases notifyState_frame_or_completion hi t s with ⟨-, hen⟩ | hdone
    · exact .inl hen
    · exact .inr (.inr (.inr hdone))
  | rearm => exact .inr (.inl ⟨rfl, rfl⟩)
  | disable => exact .inr (.inr (.inl ⟨.inl rfl, rfl⟩))
  | reset hu => cases hu; exact .inr (.inr (.inl ⟨.inr rfl, rfl⟩))
  | lineLost | ticked | tickStopped | clrdet | read => exact .inl rfl

/-- Settles O53. -/
theorem frameFieldsChangeOnlyAtCompletion : Obligations.FrameFieldsChangeOnlyAtCompletion := by
  intro i s u h
  rcases (exec_performed h).fields with hkept | hreset | ⟨hi, hf, hb, hdet, hen⟩
  · exact .inl hkept
  · exact .inr (.inl hreset)
  · exact .inr (.inr ⟨hi.agent_ne_app, hf, hb, hdet, hen⟩)

/-- Settles O54: of the writers of each flag, those that leave the other value are struck out. -/
theorem flagWriters : Obligations.FlagWriters := by
  intro i s u h
  have hd := (exec_performed h).detected
  have he := (exec_performed h).enabled
  refine ⟨fun hs hu => ?detectedFalls, fun hs hu => ?detectedRises, fun hs hu => ?enabledRises,
    fun hs hu => ?enabledFalls⟩
  case detectedFalls =>
    rcases hd with hkept | ⟨hi, -⟩ | hdone
    · simp [hkept, hs] at hu
    · exact hi
    · simp [hdone.detected] at hu
  case detectedRises =>
    rcases hd with hkept | ⟨-, hcleared⟩ | ⟨hi, hf, hb, -, hen⟩
    · simp [hkept, hs] at hu
    · simp [hcleared] at hu
    · exact ⟨hi, hf, hb, hen⟩
  case enabledRises =>
    rcases he with hkept | ⟨hi, -⟩ | ⟨-, hcleared⟩ | hdone
    · simp [hkept, hs] at hu
    · exact hi
    · simp [hcleared] at hu
    · simp [hdone.enabled] at hu
  case enabledFalls =>
    rcases he with hkept | ⟨-, hset⟩ | ⟨hi, -⟩ | ⟨hi, hf, hb, hdet, -⟩
    · simp [hkept, hs] at hu
    · simp [hset] at hu
    · exact hi.imp_right .inl
    · exact .inr (.inr ⟨hi, hf, hb, hdet⟩)

end Sys2Proof.Machine
end

section
/-! What the decoder and the collaborators do does not depend on DecodedFrame (spec/10_state.md R27). -/

namespace Sys2Proof.Machine

variable (a : Address) (k : Key) (d : Bool)

@[simp] theorem State.withFrame_enabled (s : State) : (s.withFrame a k d).enabled = s.enabled := rfl
@[simp] theorem State.withFrame_armedPolarity (s : State) :
    (s.withFrame a k d).armedPolarity = s.armedPolarity := rfl
@[simp] theorem State.withFrame_count (s : State) : (s.withFrame a k d).count = s.count := rfl
@[simp] theorem State.setCount_withFrame (s : State) (c : Tick) :
    (s.withFrame a k d).setCount c = (s.setCount c).withFrame a k d := rfl

theorem next_same_of_withFrame {r : Result} {u : State} {a : Address} {k : Key} {d : Bool}
    (h : r = .next (u.withFrame a k d)) :
    ∃ v, r = .next v ∧ SameDecoder u v ∧ SameCollaborators u v :=
  ⟨_, h, ⟨rfl, rfl, rfl, rfl, rfl⟩, ⟨rfl, rfl, rfl⟩⟩

/-- What is read of the frame goes to no register. -/
theorem returnRead_withFrame (s : State) (r r' : ReadResult) :
    SameDecoder (s.returnRead r) ((s.withFrame a k d).returnRead r') ∧
      SameCollaborators (s.returnRead r) ((s.withFrame a k d).returnRead r') :=
  ⟨⟨rfl, rfl, rfl, rfl, rfl⟩, rfl, rfl, rfl⟩

theorem SubOp.selected_withFrame (o : SubOp) (t : Tick) (s : State) :
    SubOp.selected o t (s.withFrame a k d) = SubOp.selected o t s := by
  cases o <;> rfl

/-- From another frame `NOTIFY` leaves the same state with some other frame: the one it started with,
or at a completion the one it publishes. -/
theorem notifyState_withFrame (t : Tick) (s : State) :
    ∃ a' k' d', notifyState t (s.withFrame a k d) = (notifyState t s).withFrame a' k' d' := by
  unfold notifyState
  rcases phaseState_cases t (s.setCount t) with ⟨hp, h⟩ | ⟨hp, h⟩ |
    ⟨hp, ⟨hf, hq, h⟩ | ⟨hf, hq, h⟩ | ⟨hf, hv, h⟩ | ⟨hf, hv, hi, h⟩ | ⟨hf, hv, hi, h⟩⟩ <;> rw [h]
  · exact ⟨a, k, d, phaseState_edgeFirst hp⟩
  · exact ⟨a, k, d, phaseState_edgeFall hp⟩
  · exact ⟨a, k, d, phaseState_riseMiss hp hf hq⟩
  · exact ⟨a, k, d, phaseState_riseSync hp hf hq⟩
  · exact ⟨a, k, d, phaseState_riseDesync hp hf hv⟩
  · exact ⟨a, k, d, phaseState_riseBit hp hf hv hi⟩
  · exact ⟨_, _, _, phaseState_riseDone hp hf hv hi⟩

/-- The guards of the core's rows do not read DecodedFrame. -/
theorem exec_core_withFrame {i : Instr} {s u : State} (hi : i.agent = .core)
    (h : exec i s = .next u) :
    ∃ a' k' d', exec i (s.withFrame a k d) = .next (u.withFrame a' k' d') := by
  obtain ⟨t, rfl | ⟨o, rfl⟩⟩ := agent_core_cases hi
  · obtain ⟨ht, he, rfl⟩ := exec_notify_next_iff.mp h
    obtain ⟨a', k', d', hu⟩ := notifyState_withFrame a k d (t.setWidth tickW) s
    exact ⟨a', k', d', exec_notify_next_iff.mpr ⟨ht, he, hu.symm⟩⟩
  · obtain ⟨ht, he, hsel, rfl⟩ := exec_subOp_next_iff.mp h
    obtain ⟨a', k', d', hu⟩ := notifyState_withFrame a k d (t.setWidth tickW) s
    rw [← SubOp.selected_withFrame a k d] at hsel
    exact ⟨a', k', d', exec_subOp_next_iff.mpr ⟨ht, he, hsel, hu.symm⟩⟩

theorem exec_line_withFrame {p : Polarity} {s u : State} (h : exec (.line p) s = .next u) :
    ∃ a' k' d', exec (.line p) (s.withFrame a k d) = .next (u.withFrame a' k' d') := by
  cases h
  cases hc : s.enabled && p == s.armedPolarity
  · exact ⟨a, k, d, by simp [exec, execLine, hc]⟩
  · obtain ⟨a', k', d', hv⟩ := notifyState_withFrame a k d s.count s
    exact ⟨a', k', d', by simp [exec, execLine, hc, State.readTicks, hv]⟩

theorem exec_tick_withFrame {n : Arg} {s u : State} (h : exec (.tick n) s = .next u) :
    exec (.tick n) (s.withFrame a k d) = .next (u.withFrame a k d) := by
  rcases exec_tick_next h with ⟨he, rfl⟩ | ⟨he, rfl⟩
  · simp [exec, execTick, he]
  · simp [exec, execTick, he]

/-- Settles O56: the core, `TICK` and `LINE` leave the same state with some other frame; the port and
`RESET` write no register of the decoder or the collaborators from the frame. -/
theorem decoderIgnoresDecodedFrame : Obligations.DecoderIgnoresDecodedFrame := by
  intro i a k d s u h
  by_cases hcore : i.agent = .core
  · obtain ⟨_, _, _, hv⟩ := exec_core_withFrame a k d hcore h
    exact next_same_of_withFrame hv
  · cases i with
    | notify _ | edgeFirst _ | edgeFall _ | riseMiss _ | riseSync _ | riseDesync _ | riseBit _
    | riseDone _ => exact absurd rfl hcore
    | line p =>
      obtain ⟨_, _, _, hv⟩ := exec_line_withFrame a k d h
      exact next_same_of_withFrame hv
    | tick n => exact next_same_of_withFrame (exec_tick_withFrame a k d h)
    | rdframe | rdaddr | rdkey | rddet =>
      cases h
      exact ⟨_, rfl, returnRead_withFrame a k d s _ _⟩
    | clrdet | rearm | disable | reset =>
      cases h
      exact ⟨_, rfl, ⟨rfl, rfl, rfl, rfl, rfl⟩, ⟨rfl, rfl, rfl⟩⟩

end Sys2Proof.Machine
end

section
/-! An operation of the application's port, done twice in a row (spec/20_memory.md R40). -/

namespace Sys2Proof.Machine

@[simp] theorem State.setDetected_setDetected (s : State) (b c : Bool) :
    (s.setDetected b).setDetected c = s.setDetected c := rfl

@[simp] theorem State.returnRead_returnRead (s : State) (r r' : ReadResult) :
    (s.returnRead r).returnRead r' = s.returnRead r' := rfl

/-- Settles O25: the three writers write constants, and a read leaves every register it reads, so the
second one returns the value of the first. -/
theorem applicationOperationsAreIdempotent : Obligations.ApplicationOperationsAreIdempotent := by
  intro i s u happ h
  cases i with
  | notify _ | edgeFirst _ | edgeFall _ | riseMiss _ | riseSync _ | riseDesync _ | riseBit _
  | riseDone _ | tick _ | line _ | reset => cases happ
  | clrdet =>
    cases h
    simp only [exec, execClrdet, State.setDetected_setDetected]
  | rearm | disable =>
    -- R100, R101: every write is of a constant, so the second puts what already stands there.
    cases h
    rfl
  | rdframe =>
    cases h
    simp only [exec, execRdframe, State.returnRead_detected, State.returnRead_address,
      State.returnRead_key, State.returnRead_returnRead]
  | rdaddr =>
    cases h
    simp only [exec, execRdaddr, State.returnRead_address, State.returnRead_returnRead]
  | rdkey =>
    cases h
    simp only [exec, execRdkey, State.returnRead_key, State.returnRead_returnRead]
  | rddet =>
    cases h
    simp only [exec, execRddet, State.returnRead_detected, State.returnRead_returnRead]

end Sys2Proof.Machine
end

section
/-! What the decoder reads from the fields of an event word (spec/30_encoding.md R50 to R53, R57,
R59), and how it and the encoder undo one another. -/

namespace Sys2Proof

/-! The fields as numbers (R50) -/

theorem EventWord.toNat_op (w : EventWord) : w.op.toNat = w.toNat / 2 ^ 28 := by
  have hw : w.toNat < 2 ^ 32 := w.isLt
  rw [EventWord.op, BitVec.extractLsb'_toNat, Nat.shiftRight_eq_div_pow]
  omega

theorem EventWord.toNat_zero (w : EventWord) : w.zero.toNat = w.toNat / 2 ^ 24 % 2 ^ 4 := by
  rw [EventWord.zero, BitVec.extractLsb'_toNat, Nat.shiftRight_eq_div_pow]

theorem EventWord.toNat_arg (w : EventWord) : w.arg.toNat = w.toNat % 2 ^ 24 := by
  rw [EventWord.arg, BitVec.extractLsb'_toNat, Nat.shiftRight_zero]

/-! The operand of `LINE` (R53) -/

theorem polarityBits_eq_zero_iff (a : Arg) : a.extractLsb' 1 23 = 0#23 ↔ a.toNat / 2 = 0 := by
  have ha : a.toNat < 2 ^ 24 := a.isLt
  rw [← BitVec.toNat_inj, BitVec.extractLsb'_toNat, Nat.shiftRight_eq_div_pow, BitVec.toNat_ofNat]
  omega

theorem decodeLine_ok {a : Arg} {i : Instr} (h : decodeLine a = .ok i) :
    ∃ p : Polarity, p.arg = a ∧ i = .line p := by
  unfold decodeLine at h
  split at h
  next hbits =>
    cases h
    have ha : a = 0#24 ∨ a = 1#24 := by
      have hdiv := (polarityBits_eq_zero_iff a).mp hbits
      simp only [← BitVec.toNat_inj, BitVec.toNat_ofNat]
      omega
    rcases ha with rfl | rfl
    · exact ⟨.falling, rfl, rfl⟩
    · exact ⟨.rising, rfl, rfl⟩
  next => cases h

/-! An operation that decodes (R50 to R53, R59) -/

/-- The decoder reads back the fields the encoder writes. -/
theorem decodeOp_fields (i : Instr) (hi : i.WellFormed) :
    decodeOp i.opcode.toNat i.operand = .ok i.event := by
  cases i with
  | notify _ | edgeFirst _ | edgeFall _ | riseMiss _ | riseSync _ | riseDesync _ | riseBit _
  | riseDone _ => exact decodeNotify_legal hi
  | tick _ => rfl
  | line p => exact decodeLine_arg p
  | clrdet | rearm | disable | rdframe | rdaddr | rdkey | rddet | reset =>
    exact decodeNoArg_zero _

/-- `FieldsOf i n a`: `i` is an operation an event word can name, and `n` and `a` are the fields of its
word. -/
structure FieldsOf (i : Instr) (n : Nat) (a : Arg) : Prop where
  wellFormed : i.WellFormed
  event : i.event = i
  opcode : i.opcode.toNat = n
  operand : i.operand = a

/-- The operations without operand: `i` is the operation of `op` value `n`. -/
theorem decodeNoArg_fieldsOf {i j : Instr} {n : Nat} {a : Arg} (h : decodeNoArg a i = .ok j)
    (hi : FieldsOf i n 0#24) : FieldsOf j n a := by
  obtain ⟨rfl, rfl⟩ := decodeNoArg_ok h
  exact hi

/-- The encoder writes the fields the decoder read. -/
theorem decodeOp_fieldsOf {n : Nat} {a : Arg} {i : Instr} (h : decodeOp n a = .ok i) :
    FieldsOf i n a := by
  unfold decodeOp at h
  split at h
  case h_1 | h_13 => cases h
  case h_2 =>
    obtain ⟨ha, rfl⟩ := decodeNotify_ok h
    exact ⟨ha, rfl, rfl, rfl⟩
  case h_3 =>
    cases h
    exact ⟨trivial, rfl, rfl, rfl⟩
  case h_4 =>
    obtain ⟨p, hp, rfl⟩ := decodeLine_ok h
    exact ⟨trivial, rfl, rfl, hp⟩
  all_goals exact decodeNoArg_fieldsOf h ⟨trivial, rfl, rfl, rfl⟩

/-- Settles O26: the word's fields are those the encoder wrote, and the decoder reads them back. -/
theorem decodeInvertsEncode : Obligations.DecodeInvertsEncode := by
  intro i hi
  rw [encode, decode_eventWord]
  exact decodeOp_fields i hi

/-- Settles O27: a word that decodes has a zero `zero` field, so it is built from its `op` and `arg`,
which are those the encoder writes. -/
theorem encodeInvertsDecode : Obligations.EncodeInvertsDecode := by
  intro w i h
  obtain ⟨hzero, hop⟩ := decode_ok h
  obtain ⟨hwf, hevent, hopcode, hoperand⟩ := decodeOp_fieldsOf hop
  refine ⟨hwf, hevent, ?_⟩
  rw [encode, BitVec.eq_of_toNat_eq hopcode, hoperand, eventWord_fields w hzero]

/-- Settles O29. -/
theorem encodedWordFitsItsTableRow : Obligations.EncodedWordFitsItsTableRow := by
  intro i
  cases i with
  | notify t => exact Laws.FitsTableRow.notify t
  | edgeFirst t => exact Laws.FitsTableRow.edgeFirst t
  | edgeFall t => exact Laws.FitsTableRow.edgeFall t
  | riseMiss t => exact Laws.FitsTableRow.riseMiss t
  | riseSync t => exact Laws.FitsTableRow.riseSync t
  | riseDesync t => exact Laws.FitsTableRow.riseDesync t
  | riseBit t => exact Laws.FitsTableRow.riseBit t
  | riseDone t => exact Laws.FitsTableRow.riseDone t
  | tick n => exact Laws.FitsTableRow.tick n
  | line p => exact Laws.FitsTableRow.line p
  | clrdet => exact Laws.FitsTableRow.clrdet
  | rearm => exact Laws.FitsTableRow.rearm
  | disable => exact Laws.FitsTableRow.disable
  | rdframe => exact Laws.FitsTableRow.rdframe
  | rdaddr => exact Laws.FitsTableRow.rdaddr
  | rdkey => exact Laws.FitsTableRow.rdkey
  | rddet => exact Laws.FitsTableRow.rddet
  | reset => exact Laws.FitsTableRow.reset

/-- Settles O30: each example is a closed word, and the decoder is evaluated on it. -/
theorem exampleWordsDecode : Obligations.ExampleWordsDecode :=
  ⟨rfl, rfl, rfl, rfl, rfl, rfl, rfl, rfl, rfl, rfl, rfl, rfl, rfl⟩

/-! What each operand form refuses (R57) -/

theorem decodeNotify_refuses_iff (a : Arg) :
    (∃ why, decodeNotify a = .error why) ↔ 2 ^ tickW ≤ a.toNat := by
  unfold decodeNotify
  split
  next h => simpa using h
  next h => simpa using h

theorem decodeLine_refuses_iff (a : Arg) :
    (∃ why, decodeLine a = .error why) ↔ a.toNat / 2 ≠ 0 := by
  rw [Ne, ← polarityBits_eq_zero_iff]
  unfold decodeLine
  split
  next h => simp [h]
  next h => simp [h]

theorem decodeNoArg_refuses_iff (a : Arg) (i : Instr) :
    (∃ why, decodeNoArg a i = .error why) ↔ a.toNat ≠ 0 := by
  unfold decodeNoArg
  split
  next h => simp [h]
  next h => simpa [← BitVec.toNat_inj] using h

/-- What the decoder refuses of the `op` and `arg` fields. -/
theorem decodeOp_refuses_iff {n : Nat} (hn : n < 16) (a : Arg) :
    (∃ why, decodeOp n a = .error why) ↔
      n = 0x0 ∨ (0xB ≤ n ∧ n ≤ 0xE) ∨
      (a.toNat ≠ 0 ∧ (0x4 ≤ n ∧ n ≤ 0xA ∨ n = 0xF)) ∨
      (n = 0x3 ∧ a.toNat / 2 ≠ 0) ∨ (n = 0x1 ∧ 2 ^ tickW ≤ a.toNat) := by
  unfold decodeOp
  split
  case h_1 => simp
  case h_2 => simp [decodeNotify_refuses_iff]
  case h_3 => simp
  case h_4 => simp [decodeLine_refuses_iff]
  case h_13 =>
    refine iff_of_true ⟨_, rfl⟩ (.inr (.inl ?_))
    -- `n` is none of the twelve values named, said in the form `omega` reads.
    simp only [imp_false] at *
    omega
  all_goals simp [decodeNoArg_refuses_iff]

theorem decode_refuses_iff (w : EventWord) :
    (∃ why, decode w = .error why) ↔
      w.zero.toNat ≠ 0 ∨ ∃ why, decodeOp w.op.toNat w.arg = .error why := by
  unfold decode
  split
  next h => simp [h]
  next h => exact iff_of_true ⟨_, rfl⟩ (.inl fun h0 => h (BitVec.eq_of_toNat_eq h0))

/-- Settles O28: the `zero` field is refused first, then what `decodeOp` refuses of the other two. -/
theorem illegalWordsAreExactlyThese : Obligations.IllegalWordsAreExactlyThese := by
  rintro w _ _ _ rfl rfl rfl
  rw [decode_refuses_iff, decodeOp_refuses_iff w.op.isLt, EventWord.toNat_op, EventWord.toNat_zero,
    EventWord.toNat_arg]
  tauto

end Sys2Proof
end

section
/-! One step on the event words of a trace (spec/30_encoding.md R50, R58). -/

namespace Sys2Proof.Machine

/-- A word is the table word of its own value, at the one word length (R59). -/
theorem tableWord_toNat (w : EventWord) : tableWord 32 w.toNat = w := by
  rw [tableWord, Nat.mod_eq_of_lt w.isLt, BitVec.ofNat_toNat, BitVec.setWidth_eq]

theorem State.withFetchWord_toNat (s : State) (w : EventWord) :
    s.withFetchWord 32 w.toNat = s.pushEvent w := by
  rw [State.withFetchWord, tableWord_toNat]

/-- Settles O31. -/
theorem stepRunsDecodedOperation : Obligations.StepRunsDecodedOperation := by
  intro w ws i s htrace hdecode
  simp only [step, State.nextEvent_cons htrace, hdecode]

/-- Settles O32. -/
theorem stepRefusesIllegalWord : Obligations.StepRefusesIllegalWord := by
  intro w ws why s htrace hdecode
  simp only [step, State.nextEvent_cons htrace, hdecode]

/-- Settles O34: a step that waits has no word to take, and no operation touches the words that
remain. -/
theorem stepTakesOneEvent : Obligations.StepTakesOneEvent := by
  intro s u h
  rcases step_next h with ⟨htrace, rfl⟩ | ⟨w, ws, i, htrace, -, hexec⟩
  · rw [htrace, List.tail_nil]
  · rw [exec_trace hexec, htrace, List.tail_cons]

/-- Settles O35: the placed word heads the trace, so the step performs what it decodes to (O26). -/
theorem placedWordIsPerformed : Obligations.PlacedWordIsPerformed := by
  intro i s hi
  rw [State.withFetchWord_toNat]
  exact stepRunsDecodedOperation _ _ _ _ (State.pushEvent_trace s _) (decodeInvertsEncode i hi)

end Sys2Proof.Machine
end

section
/-! The selection of the one sub-operation of `NOTIFY` (spec/30_encoding.md R56), and its refusal while
`enabled = 0` (R58). -/

namespace Sys2Proof.Machine

/-- The sub-operation R56's table gives for reading `t`, read as a decision: by `phase`, then
`preambleFound`, then the sample and `bitIndex`. -/
def State.subOp (t : Tick) (s : State) : SubOp :=
  match s.phase, s.preambleFound with
  | .awaitingFirstEdge, _ => .edgeFirst
  | .awaitingFallingEdge, _ => .edgeFall
  | .awaitingRisingEdge, false => if (s.sample t).preamble then .riseSync else .riseMiss
  | .awaitingRisingEdge, true =>
    if (s.sample t).valid then if s.bitIndex.toNat ≤ 22 then .riseBit else .riseDone
    else .riseDesync

/-- A condition of R56's table holds only of the row the decision gives. -/
theorem SubOp.eq_subOp_of_selected {o : SubOp} {t : Tick} {s : State}
    (h : SubOp.selected o t s = true) : o = s.subOp t := by
  cases o with
  | edgeFirst | edgeFall | riseMiss | riseSync | riseDesync | riseBit | riseDone =>
    simp only [SubOp.selected, Bool.and_eq_true, Bool.not_eq_true', beq_iff_eq,
      decide_eq_true_eq] at h
    simp [State.subOp, h]

/-- R56's table has a row for every state that meets I2. -/
theorem selected_subOp {t : Tick} {s : State} (hi : s.bitIndex.toNat ≤ 23) :
    SubOp.selected (s.subOp t) t s = true := by
  unfold State.subOp
  split
  next hp => simp [SubOp.selected, hp]
  next hp => simp [SubOp.selected, hp]
  next hp hf => split_ifs with hq <;> simp [SubOp.selected, hp, hf, hq]
  next hp hf =>
    split_ifs with hv hb
    · simp [SubOp.selected, hp, hf, hv, hb]
    · have hlast : s.bitIndex.toNat = 23 := by omega
      simp [SubOp.selected, hp, hf, hv, hlast]
    · simp [SubOp.selected, hp, hf, hv]

/-- Settles O8: the conditions are the cases of one decision, and the row it gives does what `NOTIFY`
does. -/
theorem notifyRunsItsOneSubOperation : Obligations.NotifyRunsItsOneSubOperation := by
  refine ⟨fun o o' t s h h' => ?exclusive, fun t s ht he hi => ?exhaustive⟩
  case exclusive =>
    rw [SubOp.eq_subOp_of_selected h, SubOp.eq_subOp_of_selected h']
  case exhaustive =>
    have hselected := selected_subOp (t := t.setWidth tickW) hi
    exact ⟨_, _, hselected, exec_notify_next_iff.mpr ⟨ht, he, rfl⟩,
      exec_subOp_next_iff.mpr ⟨ht, he, hselected, rfl⟩⟩

/-- Settles O10: all eight rows stand behind the one guard. -/
theorem notifyRefusedWhileDisabled : Obligations.NotifyRefusedWhileDisabled := by
  intro t s ht he
  refine ⟨?notify, fun o => ?subOperation⟩
  case notify =>
    rw [exec, execNotify]
    exact notified_of_disabled _ ht he
  case subOperation =>
    rw [exec_subOp_eq, selectedNotify]
    exact notified_of_disabled _ ht he

end Sys2Proof.Machine
end

section
/-! The packed forms of the frame (spec/30_encoding.md R55) and the fields of a completed one
(spec/42_frame_assembler.md R94), as numbers. -/

namespace Sys2Proof.Machine

/-- `++` puts its second argument in the low bits. -/
theorem toNat_append_eq_add {m n : Nat} (x : BitVec m) (y : BitVec n) :
    (x ++ y).toNat = x.toNat * 2 ^ n + y.toNat := by
  rw [BitVec.toNat_append, ← Nat.shiftLeft_add_eq_or_of_lt y.isLt, Nat.shiftLeft_eq]

theorem toNat_frameAddress (final : Accumulator) :
    (frameAddress final).toNat = final.toNat / 16 := by
  have hfinal : final.toNat < 2 ^ 24 := final.isLt
  rw [frameAddress, BitVec.extractLsb'_toNat, Nat.shiftRight_eq_div_pow]
  omega

theorem toNat_frameKey (final : Accumulator) : (frameKey final).toNat = final.toNat % 16 := by
  rw [frameKey, BitVec.extractLsb'_toNat, Nat.shiftRight_zero]

theorem toNat_frame24 (a : Address) (k : Key) :
    (frame24 a k).toNat = a.toNat * 16 + k.toNat :=
  toNat_append_eq_add a k

theorem toNat_frame25 (d : Bool) (a : Address) (k : Key) :
    (frame25 d a k).toNat = d.toNat * 2 ^ 24 + a.toNat * 16 + k.toNat := by
  rw [frame25, toNat_append_eq_add, toNat_append_eq_add, flagCode, BitVec.toNat_ofBool]
  omega

theorem frame24_fields (final : Accumulator) :
    frame24 (frameAddress final) (frameKey final) = final := by
  apply BitVec.eq_of_toNat_eq
  rw [toNat_frame24, toNat_frameAddress, toNat_frameKey]
  omega

/-- Settles O44. -/
theorem frameFieldsAndPackingAgree : Obligations.FrameFieldsAndPackingAgree :=
  ⟨fun final => ⟨toNat_frameAddress final, toNat_frameKey final, frame24_fields final⟩,
    fun d a k => ⟨toNat_frame24 a k, toNat_frame25 d a k⟩⟩

end Sys2Proof.Machine
end

section
/-! The expansion of the pseudo-operation `FRAME` (spec/30_encoding.md R61). -/

namespace Sys2Proof.Machine

/-- Where no line is refused, all of them stand. -/
theorem allLines_map_some (is : List Instr) : allLines (is.map some) = some is := by
  induction is with
  | nil => rfl
  | cons i is ih => rw [List.map_cons, allLines, ih, Option.map_some]

theorem notifyLine_of_lt {t : Nat} (ht : t < 2 ^ tickW) :
    notifyLine t = some (.notify (BitVec.ofNat 24 t)) :=
  if_pos ht

theorem allLines_notifyLine {ts : List Nat} (hts : ∀ t ∈ ts, t < 2 ^ tickW) :
    allLines (ts.map notifyLine) = some (ts.map fun t => .notify (BitVec.ofNat 24 t)) := by
  rw [← allLines_map_some, List.map_map]
  exact congrArg allLines (List.map_congr_left fun t ht => notifyLine_of_lt (hts t ht))

theorem bitPulse_le {T t : Nat} {b : Bool} (ht : t ∈ bitPulse T b) : t ≤ 3 * T := by
  have hmem : t = T ∨ t = 3 * T := by
    cases b
    · simpa [bitPulse] using ht
    · simpa [bitPulse, or_comm] using ht
  omega

/-- The greatest reading of a frame is the long half of a bit, so the bound on `3T` keeps all of them
legal. -/
theorem frameReadings_le {v : Frame24} {T t : Nat} (ht : t ∈ frameReadings v T) : t ≤ 3 * T := by
  obtain ⟨_, -, hpulse⟩ := List.mem_flatMap.mp ht
  exact bitPulse_le hpulse

/-- Settles O46: no reading is refused, and the readings of each bit are those of its `PULSE`. -/
theorem frameExpansion : Obligations.FrameExpansion := by
  intro v T hT
  rw [Pseudo.expand, allLines_notifyLine fun t ht => (frameReadings_le ht).trans_lt hT,
    frameReadings, List.map_flatMap]
  congr 2
  funext k
  cases v.getLsbD (23 - k) <;> rfl

end Sys2Proof.Machine
end

section
/-! The Edge Phase Tracker (spec/40_edge_phase_tracker.md): the two edges that classify no sample (R66,
R67), the readings `NOTIFY` accepts (R65), and the armed polarity as an output only (R69). -/

namespace Sys2Proof.Machine

/-! The effects of the two edges, and the completion of `NOTIFY` -/

/-- Where R56 selects a row, the row and `NOTIFY` answer the same state. -/
theorem exec_selected_next {o : SubOp} {t : Arg} {s : State} (ht : t.LegalReading)
    (he : s.enabled = true) (hsel : SubOp.selected o (t.setWidth tickW) s = true) :
    exec (o.instr t) s =
        .next (SubOp.effect o (t.setWidth tickW) (s.setCount (t.setWidth tickW))) ∧
      exec (.notify t) s =
        .next (SubOp.effect o (t.setWidth tickW) (s.setCount (t.setWidth tickW))) := by
  rw [SubOp.effect_eq_notifyState hsel]
  exact ⟨exec_subOp_next_iff.mpr ⟨ht, he, hsel, rfl⟩, exec_notify_next_iff.mpr ⟨ht, he, rfl⟩⟩

theorem selected_edgeFirst_iff {t : Tick} {s : State} :
    SubOp.selected .edgeFirst t s = true ↔ s.phase = .awaitingFirstEdge :=
  beq_iff_eq

theorem selected_edgeFall_iff {t : Tick} {s : State} :
    SubOp.selected .edgeFall t s = true ↔ s.phase = .awaitingFallingEdge :=
  beq_iff_eq

/-- Settles O1: `phase` alone selects `EDGE.FIRST`, which overwrites the reading in `count`. -/
theorem edgeFirstEffect : Obligations.EdgeFirstEffect := by
  intro t s ht he hphase
  exact ⟨_, edgeFirstState_eq (s.setCount (t.setWidth tickW)),
    exec_selected_next ht he (selected_edgeFirst_iff.mpr hphase)⟩

/-- Settles O2: `phase` alone selects `EDGE.FALL`, which moves the reading from `count` to
`hiLatch`. -/
theorem edgeFallEffect : Obligations.EdgeFallEffect := by
  intro t s ht he hphase
  exact ⟨_, edgeFallState_eq (t.setWidth tickW) (s.setCount (t.setWidth tickW)),
    exec_selected_next ht he (selected_edgeFall_iff.mpr hphase)⟩

/-- Every sub-operation resets the Tick Source, but `RISE.DONE`, which leaves the reading in it (R93). -/
theorem notifyState_count (t : Tick) (s : State) :
    (notifyState t s).count = 0#tickW ∨ (notifyState t s).count = t := by
  unfold notifyState
  rcases phaseState_cases t (s.setCount t) with ⟨-, h⟩ | ⟨-, h⟩ |
    ⟨-, ⟨-, -, h⟩ | ⟨-, -, h⟩ | ⟨-, -, h⟩ | ⟨-, -, -, h⟩ | ⟨-, -, -, h⟩⟩ <;> rw [h]
  case inr.inr.inr.inr.inr.inr => exact .inr rfl
  all_goals exact .inl rfl

/-- Settles O9. -/
theorem notifyAcceptsEveryReading : Obligations.NotifyAcceptsEveryReading := by
  intro t s ht he
  obtain ⟨htrace, hread, hdraws⟩ := notifyState_modelFields (t.setWidth tickW) s
  exact ⟨_, exec_notify_eq ht he, ⟨htrace, hread, hdraws⟩, notifyState_count _ s⟩

/-! The armed polarity -/

@[simp] theorem State.forgetPolarity_armForEdge (s : State) (p : Polarity) :
    (s.armForEdge p).forgetPolarity = s.forgetPolarity := rfl

@[simp] theorem State.setCount_armForEdge (s : State) (p : Polarity) (c : Tick) :
    (s.armForEdge p).setCount c = (s.setCount c).armForEdge p := rfl

theorem SubOp.selected_armForEdge (o : SubOp) (t : Tick) (s : State) (p : Polarity) :
    SubOp.selected o t (s.armForEdge p) = SubOp.selected o t s := by
  cases o <;> rfl

/-- Armed otherwise, `NOTIFY` runs the same sub-operation: each but `RISE.DONE` arms anew, and
`RISE.DONE` leaves the polarity it found (R93). -/
theorem notifyState_armForEdge (t : Tick) (s : State) (p : Polarity) :
    ∃ q, notifyState t (s.armForEdge p) = (notifyState t s).armForEdge q := by
  unfold notifyState
  rcases phaseState_cases t (s.setCount t) with ⟨hp, h⟩ | ⟨hp, h⟩ |
    ⟨hp, ⟨hf, hq, h⟩ | ⟨hf, hq, h⟩ | ⟨hf, hv, h⟩ | ⟨hf, hv, hi, h⟩ | ⟨hf, hv, hi, h⟩⟩ <;> rw [h]
  · exact ⟨.falling, phaseState_edgeFirst hp⟩
  · exact ⟨.rising, phaseState_edgeFall hp⟩
  · exact ⟨.falling, phaseState_riseMiss hp hf hq⟩
  · exact ⟨.falling, phaseState_riseSync hp hf hq⟩
  · exact ⟨.rising, phaseState_riseDesync hp hf hv⟩
  · exact ⟨.falling, phaseState_riseBit hp hf hv hi⟩
  · exact ⟨p, phaseState_riseDone hp hf hv hi⟩

/-- The guards of the core's rows do not read the armed polarity. -/
theorem exec_core_armForEdge {i : Instr} {s u : State} (hi : i.agent = .core)
    (h : exec i s = .next u) (p : Polarity) :
    ∃ q, exec i (s.armForEdge p) = .next (u.armForEdge q) := by
  obtain ⟨t, rfl | ⟨o, rfl⟩⟩ := agent_core_cases hi
  · obtain ⟨ht, he, rfl⟩ := exec_notify_next_iff.mp h
    obtain ⟨q, hq⟩ := notifyState_armForEdge (t.setWidth tickW) s p
    exact ⟨q, exec_notify_next_iff.mpr ⟨ht, he, hq.symm⟩⟩
  · obtain ⟨ht, he, hsel, rfl⟩ := exec_subOp_next_iff.mp h
    obtain ⟨q, hq⟩ := notifyState_armForEdge (t.setWidth tickW) s p
    rw [← SubOp.selected_armForEdge o _ s p] at hsel
    exact ⟨q, exec_subOp_next_iff.mpr ⟨ht, he, hsel, hq.symm⟩⟩

theorem exec_tick_armForEdge {n : Arg} {s u : State} (h : exec (.tick n) s = .next u)
    (p : Polarity) : exec (.tick n) (s.armForEdge p) = .next (u.armForEdge p) := by
  rcases exec_tick_next h with ⟨he, rfl⟩ | ⟨he, rfl⟩ <;> simp [exec, execTick, he]

/-- Every operation but `LINE`, armed otherwise, leaves the same state with some polarity: the one it
arms for itself, or the one it found. -/
theorem exec_armForEdge {i : Instr} {s u : State} (hline : ∀ q, i ≠ .line q)
    (h : exec i s = .next u) (p : Polarity) :
    ∃ q, exec i (s.armForEdge p) = .next (u.armForEdge q) := by
  by_cases hcore : i.agent = .core
  · exact exec_core_armForEdge hcore h p
  · cases i with
    | notify _ | edgeFirst _ | edgeFall _ | riseMiss _ | riseSync _ | riseDesync _ | riseBit _
    | riseDone _ => exact absurd rfl hcore
    | line q => exact absurd rfl (hline q)
    | tick n => exact ⟨p, exec_tick_armForEdge h p⟩
    | rearm | reset => cases h; exact ⟨.rising, rfl⟩
    | clrdet | disable | rdframe | rdaddr | rdkey | rddet => cases h; exact ⟨p, rfl⟩

/-- Settles O55. -/
theorem armedPolarityIsOnlyAnOutput : Obligations.ArmedPolarityIsOnlyAnOutput := by
  intro i p s u hline h
  obtain ⟨q, hv⟩ := exec_armForEdge hline h p
  exact ⟨_, hv, State.forgetPolarity_armForEdge u q⟩

end Sys2Proof.Machine
end

section
/-! The predicates of the Pulse Classifier and its verdict (spec/41_pulse_classifier.md R76 to R80), for
every configuration and, where the bounds are numbers, for the defaults. -/

namespace Sys2Proof.Machine

/-! The three predicates (R76 to R78) -/

/-- Settles O37. -/
theorem validRangeIsClosed : Obligations.ValidRangeIsClosed := by
  intro c low high
  rw [validRange_iff, Set.mem_Icc, Set.mem_Icc, and_assoc]

theorem validRange_comm (c : Config) (low high : Nat) :
    validRange c low high = validRange c high low := by
  rw [Bool.eq_iff_iff, validRangeIsClosed, validRangeIsClosed, and_comm]

/-- Settles O38: the comparison, doubled, is one of integers. -/
theorem decodeBitIsExact : Obligations.DecodeBitIsExact := by
  intro low high
  have hdouble : (3 / 2 : ℚ) * low ≤ high ↔ (3 : ℚ) * low ≤ 2 * high := by
    constructor <;> intro h <;> linarith
  rw [decodeBit_iff, hdouble]
  norm_cast

theorem isPreamble_high_pos {c : Config} {low high : Nat} (h : isPreamble c low high = true) :
    0 < high := by
  obtain ⟨-, ⟨hmin, -⟩, -⟩ := c.valid
  obtain ⟨hhigh, -⟩ := (isPreamble_iff c low high).mp h
  omega

theorem isPreamble_zero_high (c : Config) (low : Nat) : isPreamble c low 0 = false :=
  Bool.eq_false_iff.mpr fun h => absurd (isPreamble_high_pos h) (lt_irrefl 0)

/-- A band of the exact quotient, by cross-multiplication. -/
theorem div_mem_Icc_iff {low high : Nat} (hhigh : 0 < high) (a b : Nat) :
    (low : ℚ) / high ∈ Set.Icc (a : ℚ) (b : ℚ) ↔ a * high ≤ low ∧ low ≤ b * high := by
  have hpos : (0 : ℚ) < high := Nat.cast_pos.mpr hhigh
  rw [Set.mem_Icc, le_div_iff₀ hpos, div_le_iff₀ hpos]
  norm_cast

/-- Settles O39: R8 (b) keeps a zero `high` out of the band of `high`, so the quotient is formed with a
positive divisor only. -/
theorem isPreambleIsExact : Obligations.IsPreambleIsExact := by
  intro c low high
  refine ⟨?band, isPreamble_zero_high c low⟩
  case band =>
    rcases Nat.eq_zero_or_pos high with rfl | hhigh
    · obtain ⟨-, ⟨hmin, -⟩, -⟩ := c.valid
      simp [isPreamble_zero_high, show c.preHighMin ≠ 0 by omega]
    · rw [isPreamble_iff, div_mem_Icc_iff hhigh, Set.mem_Icc, and_assoc]

/-! The verdict while receiving (R79) -/

theorem classify_receiving_eq_invalid_iff {c : Config} {low high : Nat} :
    classify c low high true = .invalid ↔ validRange c low high = false := by
  cases h : validRange c low high <;> simp [classify, h]

theorem classify_receiving_eq_bit_iff {c : Config} {low high : Nat} {b : Bool} :
    classify c low high true = .bit b ↔
      validRange c low high = true ∧ decodeBit low high = b := by
  cases h : validRange c low high <;> simp [classify, h]

/-- Settles O40: the LOW of a preamble is at least `RATIO_MIN * PRE_HIGH_MIN`, too long for a bit. -/
theorem preambleInMidFrameIsInvalid : Obligations.PreambleInMidFrameIsInvalid := by
  intro c low high hband hpre
  obtain ⟨hhigh, -, hlow, -⟩ := (isPreamble_iff c low high).mp hpre
  have htooLong : c.validMax < low :=
    calc c.validMax < c.ratioMin * c.preHighMin := hband
      _ ≤ c.ratioMin * high := Nat.mul_le_mul_left _ hhigh
      _ ≤ low := hlow
  rw [classify_receiving_eq_invalid_iff, Bool.eq_false_iff, Ne, validRange_iff]
  omega

/-! Nominal bits (R80 (c)) -/

theorem validRange_nominal_iff (c : Config) (T : Nat) :
    validRange c T (3 * T) = true ↔ c.validMin ≤ T ∧ 3 * T ≤ c.validMax := by
  rw [validRange_iff]
  omega

theorem decodeBit_nominal_one (T : Nat) : decodeBit T (3 * T) = true := by
  rw [decodeBit_iff]
  omega

theorem decodeBit_nominal_zero {T : Nat} (hT : 1 ≤ T) : decodeBit (3 * T) T = false := by
  rw [Bool.eq_false_iff, Ne, decodeBit_iff]
  omega

/-- Settles O41: both bits have the durations `T` and `3T`, so they are valid together; `T` from 1 on
keeps the 0 off the tie of `decodeBit`. -/
theorem nominalBitsAreReadRight : Obligations.NominalBitsAreReadRight := by
  intro c T hT
  rw [← validRange_nominal_iff, Bool.not_eq_true]
  simp only [classify_receiving_eq_bit_iff, classify_receiving_eq_invalid_iff,
    validRange_comm c (3 * T) T]
  exact ⟨fun hvalid => ⟨⟨hvalid, decodeBit_nominal_one T⟩, hvalid, decodeBit_nominal_zero hT⟩,
    fun hinvalid => ⟨hinvalid, hinvalid⟩⟩

/-! The samples of a 1 (R80 (e)) -/

/-- A 1 is at least 1.5 times as long in its HIGH as in its LOW, and both are valid. -/
theorem classify_one_bounds {c : Config} {low high : Nat}
    (h : classify c low high true = .bit true) :
    3 * c.validMin ≤ 2 * high ∧ 3 * low ≤ 2 * c.validMax := by
  obtain ⟨hvalid, hbit⟩ := classify_receiving_eq_bit_iff.mp h
  obtain ⟨hlow, -, -, hhigh⟩ := (validRange_iff c low high).mp hvalid
  rw [decodeBit_iff] at hbit
  omega

/-- Settles O42: with VALID_MIN 450 and VALID_MAX 8500. -/
theorem oneBitBounds : Obligations.OneBitBounds := by
  intro low high h
  have hbounds : 3 * 450 ≤ 2 * high ∧ 3 * low ≤ 2 * 8500 := classify_one_bounds h
  omega

end Sys2Proof.Machine
end

section
/-! The four `RISE.*` sub-operations that do not complete a frame (spec/41_pulse_classifier.md R82 to
R85): which sample selects each, and what it writes. -/

namespace Sys2Proof.Machine

/-! The sample of a legal reading (R52, R68) -/

theorem sample_preamble_eq {t : Arg} (ht : t.LegalReading) (s : State) :
    (s.sample (t.setWidth tickW)).preamble =
      isPreamble Config.built t.toNat s.hiLatch.toNat := by
  rw [PulseSample.preamble, State.sample, legalReading_toNat ht]

theorem sample_valid_eq {t : Arg} (ht : t.LegalReading) (s : State) :
    (s.sample (t.setWidth tickW)).valid = validRange Config.built t.toNat s.hiLatch.toNat := by
  rw [PulseSample.valid, State.sample, legalReading_toNat ht]

theorem sample_bit_eq {t : Arg} (ht : t.LegalReading) (s : State) :
    (s.sample (t.setWidth tickW)).bit = decodeBit t.toNat s.hiLatch.toNat := by
  rw [PulseSample.bit, State.sample, legalReading_toNat ht]

/-! The rows of R56's table at a rising edge -/

theorem selected_riseMiss_iff {t : Tick} {s : State} :
    SubOp.selected .riseMiss t s = true ↔
      s.phase = .awaitingRisingEdge ∧ s.preambleFound = false ∧
        (s.sample t).preamble = false := by
  simp [SubOp.selected, and_assoc]

theorem selected_riseSync_iff {t : Tick} {s : State} :
    SubOp.selected .riseSync t s = true ↔
      s.phase = .awaitingRisingEdge ∧ s.preambleFound = false ∧
        (s.sample t).preamble = true := by
  simp [SubOp.selected, and_assoc]

theorem selected_riseDesync_iff {t : Tick} {s : State} :
    SubOp.selected .riseDesync t s = true ↔
      s.phase = .awaitingRisingEdge ∧ s.preambleFound = true ∧ (s.sample t).valid = false := by
  simp [SubOp.selected, and_assoc]

theorem selected_riseBit_iff {t : Tick} {s : State} :
    SubOp.selected .riseBit t s = true ↔
      s.phase = .awaitingRisingEdge ∧ s.preambleFound = true ∧ (s.sample t).valid = true ∧
        s.bitIndex.toNat ≤ 22 := by
  simp [SubOp.selected, and_assoc]

/-! The effects -/

/-- Settles O3. -/
theorem riseMissEffect : Obligations.RiseMissEffect := by
  intro t s ht he hphase hsearching hmiss
  rw [← sample_preamble_eq ht] at hmiss
  exact ⟨_, riseMissState_eq (s.setCount (t.setWidth tickW)),
    exec_selected_next ht he (selected_riseMiss_iff.mpr ⟨hphase, hsearching, hmiss⟩)⟩

/-- Settles O4. -/
theorem riseSyncEffect : Obligations.RiseSyncEffect := by
  intro t s ht he hphase hsearching hpreamble
  rw [← sample_preamble_eq ht] at hpreamble
  exact ⟨_, riseSyncState_eq (s.setCount (t.setWidth tickW)),
    exec_selected_next ht he (selected_riseSync_iff.mpr ⟨hphase, hsearching, hpreamble⟩)⟩

/-- Settles O5. -/
theorem riseDesyncEffect : Obligations.RiseDesyncEffect := by
  intro t s ht he hphase hreceiving hinvalid
  rw [← sample_valid_eq ht] at hinvalid
  exact ⟨_, riseDesyncState_eq (s.setCount (t.setWidth tickW)),
    exec_selected_next ht he (selected_riseDesync_iff.mpr ⟨hphase, hreceiving, hinvalid⟩)⟩

theorem bitIndex_succ_toNat {i : BitIndex} (hi : i.toNat ≤ 22) :
    (i + 1#5).toNat = i.toNat + 1 := by
  have hfits : i.toNat + (1#5).toNat < 2 ^ 5 := by rw [BitVec.toNat_ofNat]; omega
  exact BitVec.toNat_add_of_lt hfits

/-- Settles O6. -/
theorem riseBitEffect : Obligations.RiseBitEffect := by
  intro t s ht he hphase hreceiving hvalid hnotLast
  rw [← sample_valid_eq ht] at hvalid
  rw [← sample_bit_eq ht]
  exact ⟨_, riseBitState_eq _ (s.setCount (t.setWidth tickW)), bitIndex_succ_toNat hnotLast,
    exec_selected_next ht he
      (selected_riseBit_iff.mpr ⟨hphase, hreceiving, hvalid, hnotLast⟩)⟩

/-! The edge after a desync (R84 (a)) -/

/-- With nothing in `hiLatch` the two edges write the same, for `EDGE.FIRST` clears nothing. -/
theorem edgeFirstState_setPhase_eq_riseMissState {s : State} (hlatch : s.hiLatch = 0#tickW) :
    edgeFirstState (s.setPhase .awaitingFirstEdge) = riseMissState s := by
  rw [riseMissState_eq, edgeFirstState_eq, ← hlatch]
  rfl

/-- An enabled machine at a rising edge, searching, with nothing in `hiLatch`: no reading makes a
preamble of a zero HIGH, so the edge is a miss. -/
theorem rise_without_high_acts_as_edgeFirst {t : Arg} {s : State} (ht : t.LegalReading)
    (he : s.enabled = true) (hphase : s.phase = .awaitingRisingEdge)
    (hsearching : s.preambleFound = false) (hlatch : s.hiLatch = 0#tickW) :
    ∃ v, exec (.notify t) s = .next v ∧ exec (.riseMiss t) s = .next v ∧
      exec (.edgeFirst t) (s.setPhase .awaitingFirstEdge) = .next v := by
  have hmiss : (s.sample (t.setWidth tickW)).preamble = false := by
    rw [sample_preamble_eq ht, hlatch]
    exact isPreamble_zero_high _ _
  obtain ⟨hriseMiss, hnotify⟩ := exec_selected_next ht he
    (selected_riseMiss_iff.mpr ⟨hphase, hsearching, hmiss⟩)
  obtain ⟨hedgeFirst, -⟩ := exec_selected_next (s := s.setPhase .awaitingFirstEdge) ht he
    (selected_edgeFirst_iff.mpr rfl)
  refine ⟨_, hnotify, hriseMiss, hedgeFirst.trans (congrArg _ ?_)⟩
  exact edgeFirstState_setPhase_eq_riseMissState (s := s.setCount (t.setWidth tickW)) hlatch

/-- Settles O58: a desync leaves the machine enabled, at a rising edge, searching, with `hiLatch`
cleared. -/
theorem edgeAfterDesyncActsAsFirstEdge : Obligations.EdgeAfterDesyncActsAsFirstEdge := by
  intro t t' s u _ ht' h
  simp only [exec, execRiseDesync] at h
  obtain ⟨-, he, -, rfl⟩ := selectedNotify_next h
  exact rise_without_high_acts_as_edgeFirst ht' he rfl rfl rfl

end Sys2Proof.Machine
end

section
/-! The Frame Assembler (spec/42_frame_assembler.md): the readings of `insertBit` (R91), and
`RISE.DONE` (R93). -/

namespace Sys2Proof.Machine

/-! The bit inserted (R91) -/

/-- `b << (23 - i)`, the operand of R91's OR: `b` at the place of the `i`-th received bit (R92). -/
def placedBit (i : Nat) (b : Bool) : Accumulator := (flagCode b).setWidth 24 <<< (23 - i)

theorem insertBit_eq_or (acc : Accumulator) (i : Nat) (b : Bool) :
    insertBit acc i b = acc ||| placedBit i b := rfl

theorem placedBit_getLsbD (i : Nat) (b : Bool) (k : Nat) :
    (placedBit i b).getLsbD k = (decide (k = 23 - i) && b) := by
  simp only [placedBit, flagCode, BitVec.getLsbD_shiftLeft, BitVec.getLsbD_setWidth,
    BitVec.getLsbD_ofBool]
  by_cases hk : k = 23 - i
  · have hfits : 23 - i < 24 := by omega
    simp [hk, hfits]
  · by_cases hlow : k < 23 - i
    · simp [hk, hlow]
    · have habove : k - (23 - i) ≠ 0 := by omega
      simp [hk, habove]

theorem placedBit_toNat (i : Nat) (b : Bool) :
    (placedBit i b).toNat = b.toNat * 2 ^ (23 - i) := by
  cases b with
  | false => simp [placedBit, flagCode]
  | true =>
    have hfits : 2 ^ (23 - i) < 2 ^ 24 := Nat.pow_lt_pow_right (by decide) (by omega)
    simpa [placedBit, flagCode, Nat.shiftLeft_eq] using hfits

theorem insertBit_getLsbD (acc : Accumulator) (i : Nat) (b : Bool) (k : Nat) :
    (insertBit acc i b).getLsbD k = (acc.getLsbD k || (decide (k = 23 - i) && b)) := by
  rw [insertBit_eq_or, BitVec.getLsbD_or, placedBit_getLsbD]

/-- Where the target bit is 0 the two operands of R91's OR share no bit, so it is a sum. -/
theorem insertBit_toNat {acc : Accumulator} {i : Nat} (b : Bool)
    (htarget : acc.getLsbD (23 - i) = false) :
    (insertBit acc i b).toNat = acc.toNat + b.toNat * 2 ^ (23 - i) := by
  have hdisjoint : acc &&& placedBit i b = 0#24 := by
    refine BitVec.eq_of_getLsbD_eq fun k _ => ?_
    rw [BitVec.getLsbD_and, placedBit_getLsbD, BitVec.getLsbD_zero]
    by_cases hk : k = 23 - i
    · rw [hk, htarget, Bool.false_and]
    · simp [hk]
  rw [insertBit_eq_or, ← BitVec.add_eq_or_of_and_eq_zero _ _ hdisjoint,
    BitVec.toNat_add_of_and_eq_zero hdisjoint, placedBit_toNat]

/-- Settles O43: as a sum by `insertBit_toNat`, as a replacement bit by bit. -/
theorem insertBitReadingsAgree : Obligations.InsertBitReadingsAgree := by
  intro acc i b _ htarget
  refine ⟨insertBit_toNat b htarget, fun k _ => ?_⟩
  rw [insertBit_getLsbD]
  by_cases hk : k = 23 - i
  · simp [hk, htarget]
  · simp [hk]

/-! The completion (R93) -/

theorem selected_riseDone_iff {t : Tick} {s : State} :
    SubOp.selected .riseDone t s = true ↔
      s.phase = .awaitingRisingEdge ∧ s.preambleFound = true ∧ (s.sample t).valid = true ∧
        s.bitIndex.toNat = 23 := by
  simp [SubOp.selected, and_assoc]

/-- Settles O7: `RISE.DONE` resets no tick count, so the reading `NOTIFY` put there stays. -/
theorem riseDoneEffect : Obligations.RiseDoneEffect := by
  intro t s ht he hphase hreceiving hvalid hlast
  rw [← sample_valid_eq ht] at hvalid
  rw [← sample_bit_eq ht]
  exact ⟨_, _, rfl, riseDoneState_eq _ (s.setCount (t.setWidth tickW)),
    exec_selected_next ht he (selected_riseDone_iff.mpr ⟨hphase, hreceiving, hvalid, hlast⟩)⟩

end Sys2Proof.Machine
end

section
/-! The core-level summary machine (spec/43_completion_and_application_ops.md R97 to R99): the
level of a state, the moves of every operation, and what a disabled block can still do. -/

namespace Sys2Proof.Machine

/-! The partition (R97) -/

/-- The core-level state of a machine, read as a decision: by `enabled`, then `preambleFound`, then
`phase`. -/
def State.level (s : State) : CoreLevel :=
  match s.enabled, s.preambleFound, s.phase with
  | false, _, _ => .complete
  | true, true, _ => .receiving
  | true, false, .awaitingFirstEdge => .unsynced
  | true, false, _ => .syncing

theorem State.level_of_disabled {s : State} (he : s.enabled = false) : s.level = .complete := by
  simp [State.level, he]

theorem State.level_of_receiving {s : State} (he : s.enabled = true)
    (hf : s.preambleFound = true) : s.level = .receiving := by
  simp [State.level, he, hf]

theorem State.level_of_awaitingFirstEdge {s : State} (he : s.enabled = true)
    (hf : s.preambleFound = false) (hp : s.phase = .awaitingFirstEdge) : s.level = .unsynced := by
  simp [State.level, he, hf, hp]

theorem State.level_of_syncing {s : State} (he : s.enabled = true) (hf : s.preambleFound = false)
    (hp : s.phase = .awaitingFallingEdge ∨ s.phase = .awaitingRisingEdge) :
    s.level = .syncing := by
  rcases hp with hp | hp <;> simp [State.level, he, hf, hp]

/-- Under the invariants the predicates of R97 are the cases of one decision: by I5 a machine
that is receiving does not await its first edge. -/
theorem State.atLevel_iff {s : State} (hs : s.Inv) (l : CoreLevel) :
    s.atLevel l = true ↔ l = s.level := by
  cases he : s.enabled with
  | false =>
    rw [State.level_of_disabled he]
    cases l <;> simp [State.atLevel, he]
  | true =>
    cases hf : s.preambleFound with
    | true =>
      obtain ⟨-, hp⟩ := hs.receiving hf
      rw [State.level_of_receiving he hf]
      cases l <;> simp [State.atLevel, he, hf, hp]
    | false =>
      cases hp : s.phase with
      | awaitingFirstEdge =>
        rw [State.level_of_awaitingFirstEdge he hf hp]
        cases l <;> simp [State.atLevel, he, hf, hp]
      | awaitingFallingEdge | awaitingRisingEdge =>
        rw [State.level_of_syncing he hf (by simp [hp])]
        cases l <;> simp [State.atLevel, he, hf, hp]

/-- Settles O50. -/
theorem coreLevelsPartition : Obligations.CoreLevelsPartition := by
  intro s hs
  exact ⟨s.level, (State.atLevel_iff hs _).mpr rfl, fun l => (State.atLevel_iff hs l).mp⟩

/-! The moves (R98) -/

theorem SubOp.move_of_level_eq {o : SubOp} {s u : State} {x y : CoreLevel} (hs : s.level = x)
    (hu : u.level = y) (hrow : SubOp.move o x = some y) : SubOp.move o s.level = some u.level := by
  rw [hs, hu, hrow]

/-- Where R56 selects a sub-operation, its row of R98's table starts at the level of the state
and ends at the level of the state it leaves. -/
theorem SubOp.move_level {o : SubOp} {t : Tick} {s : State} (hs : s.Inv) (he : s.enabled = true)
    (hsel : SubOp.selected o t s = true) : SubOp.move o s.level = some (notifyState t s).level := by
  rw [← SubOp.effect_eq_notifyState hsel]
  cases o with
  | edgeFirst =>
    have hp := selected_edgeFirst_iff.mp hsel
    obtain ⟨hf, -⟩ := hs.first hp
    exact SubOp.move_of_level_eq (State.level_of_awaitingFirstEdge he hf hp)
      (State.level_of_syncing he hf (.inl rfl)) rfl
  | edgeFall =>
    have hp := selected_edgeFall_iff.mp hsel
    cases hf : s.preambleFound with
    | false =>
      exact SubOp.move_of_level_eq (State.level_of_syncing he hf (.inl hp))
        (State.level_of_syncing he hf (.inr rfl)) rfl
    | true =>
      exact SubOp.move_of_level_eq (State.level_of_receiving he hf)
        (State.level_of_receiving he hf) rfl
  | riseMiss =>
    obtain ⟨hp, hf, -⟩ := selected_riseMiss_iff.mp hsel
    exact SubOp.move_of_level_eq (State.level_of_syncing he hf (.inr hp))
      (State.level_of_syncing he hf (.inl rfl)) rfl
  | riseSync =>
    obtain ⟨hp, hf, -⟩ := selected_riseSync_iff.mp hsel
    exact SubOp.move_of_level_eq (State.level_of_syncing he hf (.inr hp))
      (State.level_of_receiving he rfl) rfl
  | riseDesync =>
    obtain ⟨-, hf, -⟩ := selected_riseDesync_iff.mp hsel
    exact SubOp.move_of_level_eq (State.level_of_receiving he hf)
      (State.level_of_syncing he rfl (.inr rfl)) rfl
  | riseBit =>
    obtain ⟨-, hf, -⟩ := selected_riseBit_iff.mp hsel
    exact SubOp.move_of_level_eq (State.level_of_receiving he hf)
      (State.level_of_receiving he hf) rfl
  | riseDone =>
    obtain ⟨-, hf, -⟩ := selected_riseDone_iff.mp hsel
    exact SubOp.move_of_level_eq (State.level_of_receiving he hf)
      (State.level_of_disabled rfl) rfl

theorem levelMove_subOp (o : SubOp) (t : Arg) (x y : CoreLevel) :
    levelMove (o.instr t) x y = true ↔ SubOp.move o x = some y := by
  cases o <;> exact beq_iff_eq

theorem notifyMove_of_move {o : SubOp} {x y : CoreLevel} (h : SubOp.move o x = some y) :
    notifyMove x y = true := by
  cases o <;> simp [notifyMove, h]

/-- `NOTIFY` moves as the sub-operation R56 selects, which by I2 there always is. -/
theorem notifyMove_level {s : State} (hs : s.Inv) (he : s.enabled = true) (t : Tick) :
    notifyMove s.level (notifyState t s).level = true :=
  notifyMove_of_move (SubOp.move_level hs he (selected_subOp hs.bitIndex_le))

theorem levelMove_level {i : Instr} {s u : State} (hs : s.Inv) (h : exec i s = .next u) :
    levelMove i s.level u.level = true := by
  by_cases hcore : i.agent = .core
  · obtain ⟨t, rfl | ⟨o, rfl⟩⟩ := agent_core_cases hcore
    · obtain ⟨-, he, rfl⟩ := exec_notify_next_iff.mp h
      exact notifyMove_level hs he _
    · obtain ⟨-, he, hsel, rfl⟩ := exec_subOp_next_iff.mp h
      exact (levelMove_subOp o t _ _).mpr (SubOp.move_level hs he hsel)
  · cases i with
    | notify _ | edgeFirst _ | edgeFall _ | riseMiss _ | riseSync _ | riseDesync _ | riseBit _
    | riseDone _ => exact absurd rfl hcore
    | line p =>
      rcases exec_line_next h with rfl | ⟨he, -, rfl⟩
      · simp [levelMove]
      · simp [levelMove, notifyMove_level hs he]
    | tick n => rcases exec_tick_next h with ⟨-, rfl⟩ | ⟨-, rfl⟩ <;> exact beq_self_eq_true _
    | clrdet | rdframe | rdaddr | rdkey | rddet => cases h; exact beq_self_eq_true _
    | rearm | disable | reset => cases h; rfl

/-- Settles O51: under the invariants each of the two states is at its one level. -/
theorem transitionsFollowTheTable : Obligations.TransitionsFollowTheTable := by
  intro i s u x y hs h hx hy
  have hu : u.Inv := (exec_performed h).inv hs
  rw [(State.atLevel_iff hs x).mp hx, (State.atLevel_iff hu y).mp hy]
  exact levelMove_level hs h

/-! The disabled block (R99) -/

theorem SameHardware.refl (s : State) : SameHardware s s :=
  ⟨⟨rfl, rfl, rfl, rfl, rfl⟩, ⟨rfl, rfl, rfl⟩, ⟨rfl, rfl, rfl⟩⟩

/-- A read changes no register (R40). -/
theorem SameHardware.returnRead (s : State) (r : ReadResult) : SameHardware s (s.returnRead r) :=
  ⟨⟨rfl, rfl, rfl, rfl, rfl⟩, ⟨rfl, rfl, rfl⟩, ⟨rfl, rfl, rfl⟩⟩

/-- By I6 a second `DISABLE` writes what already stands there. -/
theorem SameHardware.disable {s : State} (hs : s.Inv) (he : s.enabled = false) :
    SameHardware s (s.clearDecoder.setPhase .awaitingFirstEdge).disable := by
  obtain ⟨hphase, hfound, hindex, hacc, hlatch⟩ := hs.disabled he
  exact ⟨⟨hphase.symm, hfound.symm, hindex.symm, hacc.symm, hlatch.symm⟩, ⟨rfl, rfl, rfl⟩,
    ⟨he.symm, rfl, rfl⟩⟩

/-- Settles O52: of the effects an operation can have, those that need `enabled = 1` are struck
out. -/
theorem completeIsQuiescent : Obligations.CompleteIsQuiescent := by
  intro s hs hdisabled
  refine ⟨fun t u h => ?notify, fun i u h => ?others⟩
  case notify =>
    obtain ⟨-, he, -⟩ := exec_notify_next_iff.mp h
    simp [hdisabled] at he
  case others =>
    cases exec_performed h with
    | notified _ _ he | ticked _ he => simp [hdisabled] at he
    | lineLost | tickStopped => exact .inl (.refl s)
    | read r => exact .inl (.returnRead s r)
    | disable => exact .inl (.disable hs hdisabled)
    | rearm => exact .inr (.inl rfl)
    | clrdet => exact .inr (.inr (.inl rfl))
    | reset => exact .inr (.inr (.inr rfl))

end Sys2Proof.Machine
end

section
/-! The application's port (spec/43_completion_and_application_ops.md R100 to R106): the
word and the effect of each operation, and the snapshot after `RESET`. -/

namespace Sys2Proof.Machine

/-! The effects that write a register, or return one (R100 to R102, R104, R105) -/

/-- Settles O15. -/
theorem clrdetEffect : Obligations.ClrdetEffect :=
  ⟨decodeInvertsEncode .clrdet trivial, fun _ => rfl⟩

/-- Settles O16. -/
theorem rearmEffect : Obligations.RearmEffect :=
  ⟨decodeInvertsEncode .rearm trivial, fun _ => rfl⟩

/-- Settles O17. -/
theorem disableEffect : Obligations.DisableEffect :=
  ⟨decodeInvertsEncode .disable trivial, fun _ => rfl⟩

/-- Settles O19. -/
theorem rdaddrEffect : Obligations.RdaddrEffect :=
  ⟨decodeInvertsEncode .rdaddr trivial, fun _ => rfl⟩

/-- Settles O20. -/
theorem rdkeyEffect : Obligations.RdkeyEffect :=
  ⟨decodeInvertsEncode .rdkey trivial, fun _ => rfl⟩

/-! The flag returned (R106) -/

theorem flagCode_eq_ite (b : Bool) : flagCode b = if b then 1#1 else 0#1 := by
  cases b <;> rfl

/-- Settles O21. -/
theorem rddetEffect : Obligations.RddetEffect := by
  refine ⟨decodeInvertsEncode .rddet trivial, fun s => ?_⟩
  rw [← flagCode_eq_ite]
  rfl

/-! The snapshot (R55, R103) -/

theorem frame25_flag (d : Bool) (a : Address) (k : Key) : (frame25 d a k).getLsbD 24 = d := by
  rw [frame25, BitVec.getLsbD_append, if_neg (by decide), BitVec.getLsbD_append,
    if_neg (by decide), flagCode, BitVec.getLsbD_ofBool]
  exact Bool.true_and d

theorem frame25_address (d : Bool) (a : Address) (k : Key) :
    (frame25 d a k).extractLsb' 4 20 = a := by
  have ha := a.isLt
  have hk := k.isLt
  apply BitVec.eq_of_toNat_eq
  rw [BitVec.extractLsb'_toNat, Nat.shiftRight_eq_div_pow, toNat_frame25]
  omega

theorem frame25_key (d : Bool) (a : Address) (k : Key) :
    (frame25 d a k).extractLsb' 0 4 = k := by
  have hk := k.isLt
  apply BitVec.eq_of_toNat_eq
  rw [BitVec.extractLsb'_toNat, Nat.shiftRight_zero, toNat_frame25]
  omega

/-- Settles O18. -/
theorem rdframeEffect : Obligations.RdframeEffect := by
  refine ⟨decodeInvertsEncode .rdframe trivial, fun s => ?_⟩
  exact ⟨frame25 s.detected s.address s.key, rfl, frame25_flag _ _ _, frame25_address _ _ _,
    frame25_key _ _ _⟩

/-- With the flag 0 the snapshot is a 24-bit number. -/
theorem frame25_unmarked_lt (a : Address) (k : Key) : (frame25 false a k).toNat < 2 ^ 24 := by
  have ha := a.isLt
  have hk := k.isLt
  rw [toNat_frame25, Bool.toNat_false]
  omega

/-- An assertion of `n` unknown bits and zeros above them (R62) says that the value is below
`2^n`. -/
theorem ReadAssertion.holds_of_lt {n : Nat} {r : ReadResult} (h : r.value < 2 ^ n) :
    (ReadAssertion.mk 0 (2 ^ n - 1)).holds r = true := by
  simp only [ReadAssertion.holds, Nat.zero_or, beq_iff_eq]
  refine Nat.eq_of_testBit_eq fun i => ?_
  rw [Nat.testBit_or, Nat.testBit_two_pow_sub_one]
  by_cases hi : i < n
  · simp [hi]
  · have hbelow : r.value < 2 ^ i := h.trans_le (Nat.pow_le_pow_right (by omega) (by omega))
    simp [hi, Nat.testBit_lt_two_pow hbelow]

/-- Settles O24: `RESET` clears the flag, so nothing of the snapshot is above its 24 unknown bits,
whatever the two free values are. -/
theorem snapshotAfterResetIsUnmarked : Obligations.SnapshotAfterResetIsUnmarked := by
  intro s
  exact ⟨_, _, rfl, rfl, _, rfl, ReadAssertion.holds_of_lt (n := 24) (frame25_unmarked_lt _ _)⟩

end Sys2Proof.Machine
end

section
/-! The reception of a frame (spec/43_completion_and_application_ops.md R109,
spec/42_frame_assembler.md R91 to R94): runs of notifications, the bits received so far, and the
completion at the 24th. -/

namespace Sys2Proof.Machine

/-! Runs of notifications -/

theorem exec_notify_tick_next_iff {t : Tick} {s u : State} :
    exec (.notify (t.setWidth 24)) s = .next u ↔ s.enabled = true ∧ u = notifyState t s := by
  rw [exec_notify_next_iff, tick_setWidth_setWidth]
  exact and_iff_right (tick_legalReading t)

theorem notifyAll_cons (t : Tick) (ts : List Tick) {s : State} (he : s.enabled = true) :
    notifyAll (t :: ts) s = notifyAll ts (notifyState t s) :=
  execAll_cons _ (exec_notify_tick_next_iff.mpr ⟨he, rfl⟩)

/-- A run that completes and is not empty found the block enabled, and went on from there. -/
theorem notifyAll_cons_next {t : Tick} {ts : List Tick} {s u : State}
    (h : notifyAll (t :: ts) s = .next u) :
    s.enabled = true ∧ notifyAll ts (notifyState t s) = .next u := by
  have hs : s.enabled = true := by
    simp only [notifyAll, List.map_cons, execAll] at h
    split at h
    next hexec => exact (exec_notify_tick_next_iff.mp hexec).1
    next => cases h
    next => cases h
  exact ⟨hs, (notifyAll_cons t ts hs).symm.trans h⟩

theorem SameFrame.trans {s v u : State} (h : SameFrame s v) (h' : SameFrame v u) : SameFrame s u :=
  ⟨h'.address.trans h.address, h'.key.trans h.key, h'.detected.trans h.detected⟩

/-- A notification that leaves the block enabled completed no frame. -/
theorem notifyState_sameFrame {t : Tick} {s : State} (h : (notifyState t s).enabled = true) :
    SameFrame s (notifyState t s) := by
  rcases notifyState_frame_or_completion (i := .notify 0#24) (.inl rfl) t s with
    ⟨hframe, -⟩ | hdone
  · exact hframe
  · simp [hdone.enabled] at h

/-- Of a run that completes, every proper part at its front completes, and leaves the block enabled,
for the notification that follows, and so the frame as it was. -/
theorem notifyAll_take {ts : List Tick} {s u : State} (h : notifyAll ts s = .next u) {n : Nat}
    (hn : n < ts.length) :
    ∃ v, notifyAll (ts.take n) s = .next v ∧ v.enabled = true ∧ SameFrame s v := by
  induction n generalizing ts s with
  | zero =>
    obtain ⟨t, ts, rfl⟩ := List.exists_cons_of_length_pos hn
    exact ⟨s, rfl, (notifyAll_cons_next h).1, rfl, rfl, rfl⟩
  | succ n ih =>
    obtain ⟨t, ts, rfl⟩ := List.exists_cons_of_length_pos (Nat.zero_lt_of_lt hn)
    obtain ⟨he, hrest⟩ := notifyAll_cons_next h
    obtain ⟨t', ts', rfl⟩ := List.exists_cons_of_length_pos (l := ts) (by simp at hn; omega)
    obtain ⟨he', -⟩ := notifyAll_cons_next hrest
    obtain ⟨v, hrun, hven, hframe⟩ := ih hrest (Nat.lt_of_succ_lt_succ hn)
    refine ⟨v, ?_, hven, (notifyState_sameFrame he').trans hframe⟩
    rw [List.take_succ_cons, notifyAll_cons _ _ he, hrun]

/-! The two notifications of a sample (R70) -/

/-- The state in which the rising edge that ends a pulse finds the core: the HIGH is in `hiLatch`
(R67), and the reading of the LOW in `count` (R65). -/
def State.atRise (s : State) (p : PulseSample) : State :=
  (edgeFallState p.highTicks (s.setCount p.highTicks)).setCount p.lowTicks

theorem notifyAll_sample {s : State} (he : s.enabled = true)
    (hphase : s.phase = .awaitingFallingEdge) (p : PulseSample) (ts : List Tick) :
    notifyAll (p.highTicks :: p.lowTicks :: ts) s =
      notifyAll ts (phaseState p.lowTicks (s.atRise p)) := by
  have hfall : notifyState p.highTicks s = edgeFallState p.highTicks (s.setCount p.highTicks) :=
    phaseState_edgeFall hphase
  rw [notifyAll_cons _ _ he, hfall]
  exact notifyAll_cons p.lowTicks ts (s := edgeFallState _ _) he

theorem readings_cons (p : PulseSample) (ps : List PulseSample) :
    readings (p :: ps) = p.highTicks :: p.lowTicks :: readings ps := rfl

theorem length_readings (ps : List PulseSample) : (readings ps).length = 2 * ps.length := by
  induction ps with
  | nil => rfl
  | cons p ps ih => simp only [readings_cons, List.length_cons, ih]; omega

/-! The bits received -/

theorem bitsValue_append_singleton (bs : List Bool) (b : Bool) :
    bitsValue (bs ++ [b]) = 2 * bitsValue bs + b.toNat := by
  simp [bitsValue]

/-- The accumulator holds the bits `bs`, the first the most significant, and 0 in the positions
not yet received (R92, I4). -/
def HoldsBits (acc : Accumulator) (bs : List Bool) : Prop :=
  acc.toNat = bitsValue bs * 2 ^ (24 - bs.length)

/-- The next bit goes to a position that is 0, so R91's OR adds it. -/
theorem HoldsBits.insertBit {acc : Accumulator} {bs : List Bool} (h : HoldsBits acc bs)
    (hlen : bs.length ≤ 23) (b : Bool) : HoldsBits (insertBit acc bs.length b) (bs ++ [b]) := by
  have htarget : acc.getLsbD (23 - bs.length) = false := by
    refine (toNat_mod_two_pow_eq_zero_iff acc (24 - bs.length)).mp ?_ _ (by omega)
    rw [h]
    exact Nat.mul_mod_left _ _
  have hwidth : 24 - bs.length = 23 - bs.length + 1 := by omega
  have hwidth' : 24 - (bs ++ [b]).length = 23 - bs.length := by
    rw [List.length_append, List.length_singleton]; omega
  rw [HoldsBits, insertBit_toNat b htarget, h, bitsValue_append_singleton, hwidth,
    hwidth', pow_succ]
  ring

/-- `Received bs s`: a frame is being received in `s`, its bits so far are `bs`, and a HIGH is being
timed. -/
structure Received (bs : List Bool) (s : State) : Prop where
  enabled : s.enabled = true
  phase : s.phase = .awaitingFallingEdge
  preambleFound : s.preambleFound = true
  bitIndex : s.bitIndex.toNat = bs.length
  accumulator : HoldsBits s.accumulator bs

/-- `Published v s`: a frame of value `v` has been completed and the block has disabled itself (R93,
R94). -/
structure Published (v : Nat) (s : State) : Prop where
  detected : s.detected = true
  enabled : s.enabled = false
  value : s.address.toNat * 16 + s.key.toNat = v

/-- A preamble starts a frame with no bit in it (R83). -/
theorem received_riseSync {s : State} {p : PulseSample} (he : s.enabled = true)
    (hsearching : s.preambleFound = false) (hp : p.preamble = true) :
    Received [] (phaseState p.lowTicks (s.atRise p)) := by
  rw [phaseState_riseSync (s := s.atRise p) rfl hsearching hp]
  exact ⟨he, rfl, rfl, rfl, rfl⟩

/-- A valid sample before the 24th is one bit more (R85). -/
theorem Received.riseBit {bs : List Bool} {s : State} {p : PulseSample} (h : Received bs s)
    (hp : p.valid = true) (hlen : bs.length ≤ 22) :
    Received (bs ++ [p.bit]) (phaseState p.lowTicks (s.atRise p)) := by
  have hindex : s.bitIndex.toNat ≤ 22 := h.bitIndex ▸ hlen
  rw [phaseState_riseBit (s := s.atRise p) rfl h.preambleFound hp hindex]
  refine ⟨h.enabled, rfl, h.preambleFound, ?bitIndex, ?accumulator⟩
  case bitIndex =>
    rw [List.length_append, List.length_singleton, ← h.bitIndex]
    exact bitIndex_succ_toNat hindex
  case accumulator =>
    have hacc := h.accumulator.insertBit (hlen.trans (by decide)) p.bit
    rw [← h.bitIndex] at hacc
    exact hacc

/-- The 24th valid sample completes the frame (R93). -/
theorem Received.riseDone {bs : List Bool} {s : State} {p : PulseSample} (h : Received bs s)
    (hp : p.valid = true) (hlen : bs.length = 23) :
    Published (bitsValue (bs ++ [p.bit])) (phaseState p.lowTicks (s.atRise p)) := by
  have hindex : 23 ≤ s.bitIndex.toNat := (h.bitIndex.trans hlen).ge
  rw [phaseState_riseDone (s := s.atRise p) rfl h.preambleFound hp hindex]
  refine ⟨rfl, rfl, ?value⟩
  have hacc := h.accumulator.insertBit hlen.le p.bit
  rw [HoldsBits, hlen, List.length_append, List.length_singleton, hlen, Nat.sub_self, pow_zero,
    mul_one] at hacc
  rw [← hacc, ← toNat_frame24]
  exact congrArg BitVec.toNat (frame24_fields _)

/-- The samples that bring the bits received to 24 complete the frame. -/
theorem Received.readings_published {bs : List Bool} {s : State} {ps : List PulseSample}
    (h : Received bs s) (hlen : bs.length ≤ 23) (htotal : bs.length + ps.length = 24)
    (hps : ∀ p ∈ ps, p.valid = true) :
    ∃ u, notifyAll (readings ps) s = .next u ∧
      Published (bitsValue (bs ++ ps.map PulseSample.bit)) u := by
  induction ps generalizing bs s with
  | nil => simp at htotal; omega
  | cons p ps ih =>
    obtain ⟨hp, hrest⟩ := List.forall_mem_cons.mp hps
    rw [List.length_cons] at htotal
    rw [readings_cons, notifyAll_sample h.enabled h.phase, List.map_cons]
    by_cases hlast : bs.length = 23
    · obtain rfl : ps = [] := List.eq_nil_of_length_eq_zero (by omega)
      exact ⟨_, rfl, h.riseDone hp hlast⟩
    · have hnext := h.riseBit hp (by omega)
      rw [List.append_cons]
      exact ih hnext (by simp; omega) (by simp; omega) hrest

/-- The whole reception: the first edge, the preamble, then the 24 bits. -/
theorem notifyAll_reception {s : State} {t : Tick} {pre : PulseSample} {ps : List PulseSample}
    (he : s.enabled = true) (hphase : s.phase = .awaitingFirstEdge)
    (hsearching : s.preambleFound = false) (hpre : pre.preamble = true) (hlen : ps.length = 24)
    (hps : ∀ p ∈ ps, p.valid = true) :
    ∃ u, notifyAll (t :: readings (pre :: ps)) s = .next u ∧
      Published (bitsValue (ps.map PulseSample.bit)) u := by
  have hfirst : notifyState t s = edgeFirstState (s.setCount t) := phaseState_edgeFirst hphase
  rw [notifyAll_cons _ _ he, hfirst, readings_cons, 
    notifyAll_sample (s := edgeFirstState (s.setCount t)) he rfl]
  exact (received_riseSync he hsearching hpre).readings_published (Nat.zero_le _)
    (by rw [List.length_nil, hlen]) hps

/-- Settles O45: the run of all 51 notifications completes and publishes; what holds after fewer
of them follows from that alone, for none of them can have completed a frame. -/
theorem frameReceptionPublishesItsBits : Obligations.FrameReceptionPublishesItsBits := by
  rintro s t pre ps he hphase hsearching hpre hlen hps _ rfl
  obtain ⟨u, hrun, hdetected, hdisabled, hvalue⟩ :=
    notifyAll_reception (t := t) he hphase hsearching hpre hlen hps
  have hlength : (t :: readings (pre :: ps)).length = 51 := by
    rw [List.length_cons, length_readings, List.length_cons, hlen]
  refine ⟨hlength, ⟨u, hrun, hdetected, hdisabled, hvalue⟩, fun n hn => ?_⟩
  exact notifyAll_take hrun (hlength ▸ hn)

end Sys2Proof.Machine
end

section
/-! The collaborators (spec/44_external_collaborators.md R115, R116): the ticks the Tick Source
counts, and the edge the Edge Notifier delivers or loses. -/

namespace Sys2Proof.Machine

/-! Saturating ticks (R115) -/

theorem saturatingTicks_zero (c : Tick) : saturatingTicks c 0 = c := by
  have hc := Tick.toNat_lt c
  apply BitVec.eq_of_toNat_eq
  rw [saturatingTicks_toNat]
  omega

/-- Counting on from a count that may be at the top: a saturated count stays there, so the two
stretches of time count as one. -/
theorem saturatingTicks_saturatingTicks (c : Tick) (m n : Nat) :
    saturatingTicks (saturatingTicks c m) n = saturatingTicks c (m + n) := by
  apply BitVec.eq_of_toNat_eq
  simp only [saturatingTicks_toNat]
  omega

theorem le_saturatingTicks_toNat (c : Tick) (n : Nat) :
    c.toNat ≤ (saturatingTicks c n).toNat := by
  have hc := Tick.toNat_lt c
  rw [saturatingTicks_toNat]
  omega

theorem saturatingTicks_toNat_of_lt {c : Tick} {n : Nat} (h : c.toNat + n < 2 ^ tickW) :
    (saturatingTicks c n).toNat = c.toNat + n := by
  have htop : c.toNat + n ≤ 65535 := Nat.le_of_lt_succ h
  rw [saturatingTicks_toNat, Nat.min_eq_left htop]

/-! `TICK` (R115) -/

/-- The state `n` tick periods later, for any `n`, not only one an operand can hold. -/
def State.ticked (n : Nat) (s : State) : State :=
  if s.enabled then s.setCount (saturatingTicks s.count n) else s

theorem exec_tick_eq (n : Arg) (s : State) : exec (.tick n) s = .next (s.ticked n.toNat) := rfl

theorem State.ticked_of_enabled {s : State} (he : s.enabled = true) (n : Nat) :
    s.ticked n = s.setCount (saturatingTicks s.count n) := if_pos he

theorem State.ticked_of_disabled {s : State} (he : s.enabled = false) (n : Nat) :
    s.ticked n = s := if_neg (by simp [he])

theorem State.ticked_zero (s : State) : s.ticked 0 = s := by
  cases he : s.enabled with
  | false => exact State.ticked_of_disabled he 0
  | true =>
    rw [State.ticked_of_enabled he, saturatingTicks_zero]
    rfl

theorem State.ticked_ticked (s : State) (m n : Nat) : (s.ticked m).ticked n = s.ticked (m + n) := by
  cases he : s.enabled with
  | false => simp only [State.ticked_of_disabled he]
  | true =>
    have he' : (s.setCount (saturatingTicks s.count m)).enabled = true := he
    rw [State.ticked_of_enabled he, State.ticked_of_enabled he, State.ticked_of_enabled he',
      State.setCount_count, saturatingTicks_saturatingTicks]
    rfl

/-- Settles O11. -/
theorem tickEffect : Obligations.TickEffect := by
  refine ⟨fun n => decodeInvertsEncode (.tick n) trivial,
    fun n s => ⟨fun he => ?_, fun he => ?_⟩⟩
  · rw [exec_tick_eq, State.ticked_of_enabled he]
    rfl
  · rw [exec_tick_eq, State.ticked_of_disabled he]

theorem execTimes_unit_tick (n : Nat) (s : State) :
    execTimes n (.tick 1#24) s = .next (s.ticked n) := by
  induction n generalizing s with
  | zero => rw [State.ticked_zero]; rfl
  | succ k ih =>
    calc execTimes (k + 1) (.tick 1#24) s
        = execTimes k (.tick 1#24) (s.ticked 1) := execAll_cons _ (exec_tick_eq 1#24 s)
      _ = .next ((s.ticked 1).ticked k) := ih _
      _ = .next (s.ticked (k + 1)) := by rw [State.ticked_ticked, Nat.add_comm]

/-- Settles O12, by induction on the number of unit ticks, for any number of them. -/
theorem tickEqualsRepeatedUnitTicks : Obligations.TickEqualsRepeatedUnitTicks := by
  intro n s
  rw [execTimes_unit_tick, exec_tick_eq]

/-- Settles O13. -/
theorem tickSourceIsMonotonic : Obligations.TickSourceIsMonotonic := by
  intro n s u h
  rcases exec_tick_next h with ⟨-, rfl⟩ | ⟨hdisabled, rfl⟩
  · exact ⟨le_saturatingTicks_toNat _ _, fun _ hfits => saturatingTicks_toNat_of_lt hfits⟩
  · exact ⟨le_rfl, fun henabled => by simp [hdisabled] at henabled⟩

/-! `LINE` (R116) -/

theorem exec_line_delivered {p : Polarity} {s : State} (he : s.enabled = true)
    (hp : s.armedPolarity = p) : exec (.line p) s = .next (notifyState s.count s) := by
  simp [exec, execLine, he, hp, State.readTicks]

/-- Nothing remembers an edge the block is not enabled and armed for. -/
theorem exec_line_lost {p : Polarity} {s : State}
    (h : ¬(s.enabled = true ∧ s.armedPolarity = p)) : exec (.line p) s = .next s := by
  obtain ⟨u, hu⟩ : ∃ u, exec (.line p) s = .next u := ⟨_, rfl⟩
  rcases exec_line_next hu with rfl | ⟨he, hp, -⟩
  · exact hu
  · exact absurd ⟨he, hp⟩ h

/-- Settles O14: an edge is delivered, or it is lost; a count is always a legal reading, so `NOTIFY`
does not refuse it. -/
theorem lineEffect : Obligations.LineEffect := by
  refine ⟨decodeInvertsEncode (.line .rising) trivial,
    decodeInvertsEncode (.line .falling) trivial,
    fun p s => ⟨fun he hp => ?_, fun _ hp => ?_, fun he => ?_⟩⟩
  · exact ⟨_, exec_line_delivered he hp, exec_notify_tick_next_iff.mpr ⟨he, rfl⟩⟩
  · exact exec_line_lost fun h => hp h.2
  · exact exec_line_lost fun h => by simp [he] at h

end Sys2Proof.Machine
end

section
/-! What a step without an event does, and what the application can see through its port
(spec/60_exceptions.md R126, R127). -/

namespace Sys2Proof.Machine

/-- Settles O33: with an empty trace there is no next event, and `step` waits. -/
theorem stepWaitsWithoutEvent : Obligations.StepWaitsWithoutEvent := by
  intro s htrace
  simp only [step, State.nextEvent_nil htrace]

theorem SameFrame.setDetected {s s' : State} (h : SameFrame s s') (b : Bool) :
    SameFrame (s.setDetected b) (s'.setDetected b) :=
  ⟨h.address, h.key, rfl⟩

/-- Two reads that return the same value show the application the same, and leave its frame alone. -/
theorem SameFrame.returnRead {s s' : State} (h : SameFrame s s') {r r' : ReadResult}
    (hr : r' = r) :
    (s.returnRead r).lastRead = (s'.returnRead r').lastRead ∧
      SameFrame (s.returnRead r) (s'.returnRead r') :=
  ⟨congrArg some hr.symm, h.address, h.key, h.detected⟩

/-- Settles O57: the three writers return nothing, and write the frame with a constant or not at all;
each read returns a function of the frame's fields. -/
theorem readsSeeOnlyDecodedFrame : Obligations.ReadsSeeOnlyDecodedFrame := by
  intro i s s' u u' happ hframe hread h h'
  cases i with
  | notify _ | edgeFirst _ | edgeFall _ | riseMiss _ | riseSync _ | riseDesync _ | riseBit _
  | riseDone _ | tick _ | line _ | reset => cases happ
  | clrdet =>
    cases h; cases h'
    exact ⟨hread, hframe.setDetected false⟩
  | rearm | disable =>
    cases h; cases h'
    exact ⟨hread, hframe.address, hframe.key, hframe.detected⟩
  | rdframe =>
    cases h; cases h'
    exact hframe.returnRead (by rw [hframe.detected, hframe.address, hframe.key])
  | rdaddr =>
    cases h; cases h'
    exact hframe.returnRead (by rw [hframe.address])
  | rdkey =>
    cases h; cases h'
    exact hframe.returnRead (by rw [hframe.key])
  | rddet =>
    cases h; cases h'
    exact hframe.returnRead (by rw [hframe.detected])

end Sys2Proof.Machine
end

section
/-! What `RESET` does (spec/70_reset_and_hazards.md R141). -/

namespace Sys2Proof.Machine

/-- Settles O22: the address and the key are the values drawn at this `RESET`, and the named writes of
`execReset` add up to the one record update, field by field. -/
theorem resetEffect : Obligations.ResetEffect := by
  refine ⟨decodeInvertsEncode .reset trivial, fun s => ?_⟩
  exact ⟨Config.freeAddress s.freeDraws, Config.freeKey s.freeDraws, rfl⟩

end Sys2Proof.Machine
end
